-- ==== Sys2Proof/Word.lean ====
section
/-! DEFINITION. The word types of the machine: register and instruction words of 64 bits (R4 `XLEN`, `ILEN`),
bytes of scratch memory (R35) and the operand fields of an instruction word (R81). -/

namespace Sys2Proof

/-- A 64-bit value: a register's content (R20) or an instruction word (R80). -/
abbrev Word := BitVec 64

/-- One byte of scratch memory (R35). -/
abbrev Byte := BitVec 8

/-- A register field of an instruction word: 4 bits, so 0..15 (R81), of which 0..10 name a register (R25). -/
abbrev RegField := BitVec 4

/-- The `imm` field: a 32-bit pattern whose reading depends on the instruction (R81, R87). -/
abbrev Imm := BitVec 32

/-- The `offset` field: a 16-bit pattern, always read as two's complement (R81, R86). -/
abbrev Offset := BitVec 16

end Sys2Proof
end

