-- ==== Sys2Proof/Config.lean ====
section
/-! DEFINITION. The implementation parameters of R4, at the value this hardware takes, and the one open value
of the spec, `MEM_INIT`.

The parameters that select between behaviours stand at the value R4 gives this hardware and are built into the
operation that each governs (log entry 8): `IMM64_EXT` = sign in `Machine.ext64`, `DIV_SIGNED` = false in
`Machine.div64`, `NEG_MODE` = twos in `Machine.neg64`, `R10_WRITE_POLICY` = fault in `Machine.writable`,
`BYTE_ORDER` = little in `Machine.Memory.readLE` and `Machine.leConvert16`, `CALL_MODE` = jump in `Machine.execCall`,
`OPCODE_MAP` in `Sys2Proof.Instr.fields` and `Sys2Proof.selectInstr`. -/

namespace Sys2Proof.Config

/-- `MEM_SLOTS`: scratch memory words (R4). -/
def memSlots : Nat := 16

/-- `MEM_SIZE`: scratch memory bytes, `MEM_SLOTS * 8` (R4, R35). -/
def memSize : Nat := memSlots * 8

/-- `MEM_BASE`: the address of scratch byte 0 (R4, R51). -/
def memBase : Nat := 0

/-- The largest `PROG_LEN` (R4, R297). -/
def progLenMax : Nat := 2 ^ 32

/-- `SHMASK64`: the mask of a 64-bit shift's amount (R4). -/
def shiftMask64 : BitVec 64 := 63

/-- `SHMASK32`: the mask of a 32-bit shift's amount (R4). -/
def shiftMask32 : BitVec 32 := 31

/-- `MEM_INIT` as `State.reset` takes it: any bytes at all (R38, R292, D21). A FREE VALUE: the constant has no body,
so nothing can be proved of a byte of it (log entry 5). -/
opaque memInit : Nat → Byte

end Sys2Proof.Config
end

