-- ==== Sys2Proof/Syntax.lean ====
section
/-! DEFINITION. The instructions of EBPFVM-1: one constructor for each row of spec/opcode_table.json, and the fourteen
forms of R90, which say which fields of the word an instruction uses.

A constructor holds the fields its form uses and no other (R91: a field a form does not use is not examined, so it has
no place in the instruction; log entry 14). A register field is held as its 4 bits, because 11..15 are encodings the
decoder accepts and the instruction faults on (R25, R94, conflict C3). -/

namespace Sys2Proof

/-- The forms of R90. -/
inductive Form where
  | aluImm | aluSrc | aluUnary | endian | ja | jmpImm | jmpSrc | call | exit | lddw | ldx | st | stx | pkt
  deriving DecidableEq, Repr

/-- `uses_dst(form)`: the form's `dst` is marked r, w or rw (R90, R262). -/
def Form.usesDst : Form → Bool
  | .aluImm | .aluUnary | .endian | .lddw | .aluSrc | .ldx | .jmpImm | .st | .jmpSrc | .stx => true
  | .ja | .call | .exit | .pkt => false

/-- `uses_src(form)`: the form's `src` is marked r (R90, R262). -/
def Form.usesSrc : Form → Bool
  | .aluSrc | .ldx | .jmpSrc | .stx => true
  | .aluImm | .aluUnary | .endian | .lddw | .jmpImm | .st | .ja | .call | .exit | .pkt => false

/-- `writes_dst(form)`: the form's `dst` is marked w or rw (R90, R262). -/
def Form.writesDst : Form → Bool
  | .aluImm | .aluUnary | .endian | .lddw | .aluSrc | .ldx => true
  | .jmpImm | .st | .jmpSrc | .stx | .ja | .call | .exit | .pkt => false

/-- `uses_offset(form)`: the form's `offset` is a displacement (R90). -/
def Form.usesOffset : Form → Bool
  | .ja | .jmpImm | .jmpSrc | .ldx | .st | .stx => true
  | .aluImm | .aluSrc | .aluUnary | .endian | .call | .exit | .lddw | .pkt => false

/-- `uses_imm(form)`: the form's `imm` is an operand or selects the width (R90). -/
def Form.usesImm : Form → Bool
  | .aluImm | .endian | .jmpImm | .call | .lddw | .st => true
  | .aluSrc | .aluUnary | .ja | .jmpSrc | .exit | .ldx | .stx | .pkt => false

/-- An instruction of EBPFVM-1. -/
inductive Instr where
  /-- `add rD #imm` (R132). -/
  | addImm (dst : RegField) (imm : Imm)
  /-- `add rD rS` (R133). -/
  | addSrc (dst : RegField) (src : RegField)
  /-- `sub rD #imm` (R134). -/
  | subImm (dst : RegField) (imm : Imm)
  /-- `sub rD rS` (R135). -/
  | subSrc (dst : RegField) (src : RegField)
  /-- `mul rD #imm` (R136). -/
  | mulImm (dst : RegField) (imm : Imm)
  /-- `mul rD rS` (R137). -/
  | mulSrc (dst : RegField) (src : RegField)
  /-- `div rD #imm` (R138). -/
  | divImm (dst : RegField) (imm : Imm)
  /-- `div rD rS` (R139). -/
  | divSrc (dst : RegField) (src : RegField)
  /-- `or rD #imm` (R140). -/
  | orImm (dst : RegField) (imm : Imm)
  /-- `or rD rS` (R141). -/
  | orSrc (dst : RegField) (src : RegField)
  /-- `and rD #imm` (R142). -/
  | andImm (dst : RegField) (imm : Imm)
  /-- `and rD rS` (R143). -/
  | andSrc (dst : RegField) (src : RegField)
  /-- `lsh rD #imm` (R144). -/
  | lshImm (dst : RegField) (imm : Imm)
  /-- `lsh rD rS` (R145). -/
  | lshSrc (dst : RegField) (src : RegField)
  /-- `rsh rD #imm` (R146). -/
  | rshImm (dst : RegField) (imm : Imm)
  /-- `rsh rD rS` (R147). -/
  | rshSrc (dst : RegField) (src : RegField)
  /-- `mod rD #imm` (R148). -/
  | modImm (dst : RegField) (imm : Imm)
  /-- `mod rD rS` (R149). -/
  | modSrc (dst : RegField) (src : RegField)
  /-- `xor rD #imm` (R150). -/
  | xorImm (dst : RegField) (imm : Imm)
  /-- `xor rD rS` (R151). -/
  | xorSrc (dst : RegField) (src : RegField)
  /-- `mov rD #imm` (R152). -/
  | movImm (dst : RegField) (imm : Imm)
  /-- `mov rD rS` (R153). -/
  | movSrc (dst : RegField) (src : RegField)
  /-- `arsh rD #imm` (R154). -/
  | arshImm (dst : RegField) (imm : Imm)
  /-- `arsh rD rS` (R155). -/
  | arshSrc (dst : RegField) (src : RegField)
  /-- `neg rD` (R156). -/
  | neg (dst : RegField)
  /-- `add32 rD #imm` (R162). -/
  | add32Imm (dst : RegField) (imm : Imm)
  /-- `add32 rD rS` (R163). -/
  | add32Src (dst : RegField) (src : RegField)
  /-- `sub32 rD #imm` (R164). -/
  | sub32Imm (dst : RegField) (imm : Imm)
  /-- `sub32 rD rS` (R165). -/
  | sub32Src (dst : RegField) (src : RegField)
  /-- `mul32 rD #imm` (R166). -/
  | mul32Imm (dst : RegField) (imm : Imm)
  /-- `mul32 rD rS` (R167). -/
  | mul32Src (dst : RegField) (src : RegField)
  /-- `div32 rD #imm` (R168). -/
  | div32Imm (dst : RegField) (imm : Imm)
  /-- `div32 rD rS` (R169). -/
  | div32Src (dst : RegField) (src : RegField)
  /-- `or32 rD #imm` (R170). -/
  | or32Imm (dst : RegField) (imm : Imm)
  /-- `or32 rD rS` (R171). -/
  | or32Src (dst : RegField) (src : RegField)
  /-- `and32 rD #imm` (R172). -/
  | and32Imm (dst : RegField) (imm : Imm)
  /-- `and32 rD rS` (R173). -/
  | and32Src (dst : RegField) (src : RegField)
  /-- `lsh32 rD #imm` (R174). -/
  | lsh32Imm (dst : RegField) (imm : Imm)
  /-- `lsh32 rD rS` (R175). -/
  | lsh32Src (dst : RegField) (src : RegField)
  /-- `rsh32 rD #imm` (R176). -/
  | rsh32Imm (dst : RegField) (imm : Imm)
  /-- `rsh32 rD rS` (R177). -/
  | rsh32Src (dst : RegField) (src : RegField)
  /-- `mod32 rD #imm` (R178). -/
  | mod32Imm (dst : RegField) (imm : Imm)
  /-- `mod32 rD rS` (R179). -/
  | mod32Src (dst : RegField) (src : RegField)
  /-- `xor32 rD #imm` (R180). -/
  | xor32Imm (dst : RegField) (imm : Imm)
  /-- `xor32 rD rS` (R181). -/
  | xor32Src (dst : RegField) (src : RegField)
  /-- `mov32 rD #imm` (R182). -/
  | mov32Imm (dst : RegField) (imm : Imm)
  /-- `mov32 rD rS` (R183). -/
  | mov32Src (dst : RegField) (src : RegField)
  /-- `arsh32 rD #imm` (R184). -/
  | arsh32Imm (dst : RegField) (imm : Imm)
  /-- `arsh32 rD rS` (R185). -/
  | arsh32Src (dst : RegField) (src : RegField)
  /-- `neg32 rD` (R186). -/
  | neg32 (dst : RegField)
  /-- `le16 rD` (R192). -/
  | le16 (dst : RegField)
  /-- `le32 rD` (R193). -/
  | le32 (dst : RegField)
  /-- `le64 rD` (R194). -/
  | le64 (dst : RegField)
  /-- `be16 rD` (R195). -/
  | be16 (dst : RegField)
  /-- `be32 rD` (R196). -/
  | be32 (dst : RegField)
  /-- `be64 rD` (R197). -/
  | be64 (dst : RegField)
  /-- `ja <label>` (R203). -/
  | ja (offset : Offset)
  /-- `jeq rD #imm <label>` (R204). -/
  | jeqImm (dst : RegField) (imm : Imm) (offset : Offset)
  /-- `jeq rD rS <label>` (R205). -/
  | jeqSrc (dst : RegField) (src : RegField) (offset : Offset)
  /-- `jgt rD #imm <label>` (R206). -/
  | jgtImm (dst : RegField) (imm : Imm) (offset : Offset)
  /-- `jgt rD rS <label>` (R207). -/
  | jgtSrc (dst : RegField) (src : RegField) (offset : Offset)
  /-- `jge rD #imm <label>` (R208). -/
  | jgeImm (dst : RegField) (imm : Imm) (offset : Offset)
  /-- `jge rD rS <label>` (R209). -/
  | jgeSrc (dst : RegField) (src : RegField) (offset : Offset)
  /-- `jset rD #imm <label>` (R210). -/
  | jsetImm (dst : RegField) (imm : Imm) (offset : Offset)
  /-- `jset rD rS <label>` (R211). -/
  | jsetSrc (dst : RegField) (src : RegField) (offset : Offset)
  /-- `jne rD #imm <label>` (R212). -/
  | jneImm (dst : RegField) (imm : Imm) (offset : Offset)
  /-- `jne rD rS <label>` (R213). -/
  | jneSrc (dst : RegField) (src : RegField) (offset : Offset)
  /-- `jsgt rD #imm <label>` (R214). -/
  | jsgtImm (dst : RegField) (imm : Imm) (offset : Offset)
  /-- `jsgt rD rS <label>` (R215). -/
  | jsgtSrc (dst : RegField) (src : RegField) (offset : Offset)
  /-- `jsge rD #imm <label>` (R216). -/
  | jsgeImm (dst : RegField) (imm : Imm) (offset : Offset)
  /-- `jsge rD rS <label>` (R217). -/
  | jsgeSrc (dst : RegField) (src : RegField) (offset : Offset)
  /-- `call #imm` (R220). -/
  | call (imm : Imm)
  /-- `exit` (R221). -/
  | exit
  /-- `lddw rD #imm` (R225). -/
  | lddw (dst : RegField) (imm : Imm)
  /-- `ldxw rD [rS + #off]` (R232). -/
  | ldxw (dst : RegField) (src : RegField) (offset : Offset)
  /-- `ldxh rD [rS + #off]` (R233). -/
  | ldxh (dst : RegField) (src : RegField) (offset : Offset)
  /-- `ldxb rD [rS + #off]` (R234). -/
  | ldxb (dst : RegField) (src : RegField) (offset : Offset)
  /-- `ldxdw rD [rS + #off]` (R235). -/
  | ldxdw (dst : RegField) (src : RegField) (offset : Offset)
  /-- `stw [rD + #off] #imm` (R236). -/
  | stw (dst : RegField) (offset : Offset) (imm : Imm)
  /-- `sth [rD + #off] #imm` (R237). -/
  | sth (dst : RegField) (offset : Offset) (imm : Imm)
  /-- `stb [rD + #off] #imm` (R238). -/
  | stb (dst : RegField) (offset : Offset) (imm : Imm)
  /-- `stdw [rD + #off] #imm` (R239). -/
  | stdw (dst : RegField) (offset : Offset) (imm : Imm)
  /-- `stxw [rD + #off] rS` (R240). -/
  | stxw (dst : RegField) (src : RegField) (offset : Offset)
  /-- `stxh [rD + #off] rS` (R241). -/
  | stxh (dst : RegField) (src : RegField) (offset : Offset)
  /-- `stxb [rD + #off] rS` (R242). -/
  | stxb (dst : RegField) (src : RegField) (offset : Offset)
  /-- `stxdw [rD + #off] rS` (R243). -/
  | stxdw (dst : RegField) (src : RegField) (offset : Offset)
  /-- `ldabsw rD [rS + #off]`, every operand field ignored (R251). -/
  | ldabsw
  /-- `ldabsh rD [rS + #off]`, every operand field ignored (R252). -/
  | ldabsh
  /-- `ldabsb rD [rS + #off]`, every operand field ignored (R253). -/
  | ldabsb
  /-- `ldabsdw rD [rS + #off]`, every operand field ignored (R254). -/
  | ldabsdw
  /-- `ldindw rD [rS + #off]`, every operand field ignored (R255). -/
  | ldindw
  /-- `ldindh rD [rS + #off]`, every operand field ignored (R256). -/
  | ldindh
  /-- `ldindb rD [rS + #off]`, every operand field ignored (R257). -/
  | ldindb
  /-- `ldinddw rD [rS + #off]`, every operand field ignored (R258). -/
  | ldinddw
  deriving DecidableEq, Repr

/-- The form of an instruction (the table of R90; the rows of spec/opcode_table.json). -/
def Instr.form : Instr → Form
  | .addImm _ _ => .aluImm
  | .addSrc _ _ => .aluSrc
  | .subImm _ _ => .aluImm
  | .subSrc _ _ => .aluSrc
  | .mulImm _ _ => .aluImm
  | .mulSrc _ _ => .aluSrc
  | .divImm _ _ => .aluImm
  | .divSrc _ _ => .aluSrc
  | .orImm _ _ => .aluImm
  | .orSrc _ _ => .aluSrc
  | .andImm _ _ => .aluImm
  | .andSrc _ _ => .aluSrc
  | .lshImm _ _ => .aluImm
  | .lshSrc _ _ => .aluSrc
  | .rshImm _ _ => .aluImm
  | .rshSrc _ _ => .aluSrc
  | .modImm _ _ => .aluImm
  | .modSrc _ _ => .aluSrc
  | .xorImm _ _ => .aluImm
  | .xorSrc _ _ => .aluSrc
  | .movImm _ _ => .aluImm
  | .movSrc _ _ => .aluSrc
  | .arshImm _ _ => .aluImm
  | .arshSrc _ _ => .aluSrc
  | .neg _ => .aluUnary
  | .add32Imm _ _ => .aluImm
  | .add32Src _ _ => .aluSrc
  | .sub32Imm _ _ => .aluImm
  | .sub32Src _ _ => .aluSrc
  | .mul32Imm _ _ => .aluImm
  | .mul32Src _ _ => .aluSrc
  | .div32Imm _ _ => .aluImm
  | .div32Src _ _ => .aluSrc
  | .or32Imm _ _ => .aluImm
  | .or32Src _ _ => .aluSrc
  | .and32Imm _ _ => .aluImm
  | .and32Src _ _ => .aluSrc
  | .lsh32Imm _ _ => .aluImm
  | .lsh32Src _ _ => .aluSrc
  | .rsh32Imm _ _ => .aluImm
  | .rsh32Src _ _ => .aluSrc
  | .mod32Imm _ _ => .aluImm
  | .mod32Src _ _ => .aluSrc
  | .xor32Imm _ _ => .aluImm
  | .xor32Src _ _ => .aluSrc
  | .mov32Imm _ _ => .aluImm
  | .mov32Src _ _ => .aluSrc
  | .arsh32Imm _ _ => .aluImm
  | .arsh32Src _ _ => .aluSrc
  | .neg32 _ => .aluUnary
  | .le16 _ => .endian
  | .le32 _ => .endian
  | .le64 _ => .endian
  | .be16 _ => .endian
  | .be32 _ => .endian
  | .be64 _ => .endian
  | .ja _ => .ja
  | .jeqImm _ _ _ => .jmpImm
  | .jeqSrc _ _ _ => .jmpSrc
  | .jgtImm _ _ _ => .jmpImm
  | .jgtSrc _ _ _ => .jmpSrc
  | .jgeImm _ _ _ => .jmpImm
  | .jgeSrc _ _ _ => .jmpSrc
  | .jsetImm _ _ _ => .jmpImm
  | .jsetSrc _ _ _ => .jmpSrc
  | .jneImm _ _ _ => .jmpImm
  | .jneSrc _ _ _ => .jmpSrc
  | .jsgtImm _ _ _ => .jmpImm
  | .jsgtSrc _ _ _ => .jmpSrc
  | .jsgeImm _ _ _ => .jmpImm
  | .jsgeSrc _ _ _ => .jmpSrc
  | .call _ => .call
  | .exit => .exit
  | .lddw _ _ => .lddw
  | .ldxw _ _ _ => .ldx
  | .ldxh _ _ _ => .ldx
  | .ldxb _ _ _ => .ldx
  | .ldxdw _ _ _ => .ldx
  | .stw _ _ _ => .st
  | .sth _ _ _ => .st
  | .stb _ _ _ => .st
  | .stdw _ _ _ => .st
  | .stxw _ _ _ => .stx
  | .stxh _ _ _ => .stx
  | .stxb _ _ _ => .stx
  | .stxdw _ _ _ => .stx
  | .ldabsw => .pkt
  | .ldabsh => .pkt
  | .ldabsb => .pkt
  | .ldabsdw => .pkt
  | .ldindw => .pkt
  | .ldindh => .pkt
  | .ldindb => .pkt
  | .ldinddw => .pkt

end Sys2Proof
end

