-- ==== Sys2Proof/WellFormed.lean ====
section
/-! DEFINITION. Which instructions are well formed: every register field the form uses names one of the eleven registers
(R25, R94), and no form that writes `dst` names R10 there (R24). The machine runs an ill-formed instruction too: it
faults (R266, R267). These are the checks a program's author can make before the run (R295). -/

namespace Sys2Proof

/-- The `dst` field of an instruction whose form uses it (R90). -/
def Instr.usedDst : Instr → Option RegField
  | .addImm dst _ => some dst
  | .addSrc dst _ => some dst
  | .subImm dst _ => some dst
  | .subSrc dst _ => some dst
  | .mulImm dst _ => some dst
  | .mulSrc dst _ => some dst
  | .divImm dst _ => some dst
  | .divSrc dst _ => some dst
  | .orImm dst _ => some dst
  | .orSrc dst _ => some dst
  | .andImm dst _ => some dst
  | .andSrc dst _ => some dst
  | .lshImm dst _ => some dst
  | .lshSrc dst _ => some dst
  | .rshImm dst _ => some dst
  | .rshSrc dst _ => some dst
  | .modImm dst _ => some dst
  | .modSrc dst _ => some dst
  | .xorImm dst _ => some dst
  | .xorSrc dst _ => some dst
  | .movImm dst _ => some dst
  | .movSrc dst _ => some dst
  | .arshImm dst _ => some dst
  | .arshSrc dst _ => some dst
  | .neg dst => some dst
  | .add32Imm dst _ => some dst
  | .add32Src dst _ => some dst
  | .sub32Imm dst _ => some dst
  | .sub32Src dst _ => some dst
  | .mul32Imm dst _ => some dst
  | .mul32Src dst _ => some dst
  | .div32Imm dst _ => some dst
  | .div32Src dst _ => some dst
  | .or32Imm dst _ => some dst
  | .or32Src dst _ => some dst
  | .and32Imm dst _ => some dst
  | .and32Src dst _ => some dst
  | .lsh32Imm dst _ => some dst
  | .lsh32Src dst _ => some dst
  | .rsh32Imm dst _ => some dst
  | .rsh32Src dst _ => some dst
  | .mod32Imm dst _ => some dst
  | .mod32Src dst _ => some dst
  | .xor32Imm dst _ => some dst
  | .xor32Src dst _ => some dst
  | .mov32Imm dst _ => some dst
  | .mov32Src dst _ => some dst
  | .arsh32Imm dst _ => some dst
  | .arsh32Src dst _ => some dst
  | .neg32 dst => some dst
  | .le16 dst => some dst
  | .le32 dst => some dst
  | .le64 dst => some dst
  | .be16 dst => some dst
  | .be32 dst => some dst
  | .be64 dst => some dst
  | .ja _ => none
  | .jeqImm dst _ _ => some dst
  | .jeqSrc dst _ _ => some dst
  | .jgtImm dst _ _ => some dst
  | .jgtSrc dst _ _ => some dst
  | .jgeImm dst _ _ => some dst
  | .jgeSrc dst _ _ => some dst
  | .jsetImm dst _ _ => some dst
  | .jsetSrc dst _ _ => some dst
  | .jneImm dst _ _ => some dst
  | .jneSrc dst _ _ => some dst
  | .jsgtImm dst _ _ => some dst
  | .jsgtSrc dst _ _ => some dst
  | .jsgeImm dst _ _ => some dst
  | .jsgeSrc dst _ _ => some dst
  | .call _ => none
  | .exit => none
  | .lddw dst _ => some dst
  | .ldxw dst _ _ => some dst
  | .ldxh dst _ _ => some dst
  | .ldxb dst _ _ => some dst
  | .ldxdw dst _ _ => some dst
  | .stw dst _ _ => some dst
  | .sth dst _ _ => some dst
  | .stb dst _ _ => some dst
  | .stdw dst _ _ => some dst
  | .stxw dst _ _ => some dst
  | .stxh dst _ _ => some dst
  | .stxb dst _ _ => some dst
  | .stxdw dst _ _ => some dst
  | .ldabsw => none
  | .ldabsh => none
  | .ldabsb => none
  | .ldabsdw => none
  | .ldindw => none
  | .ldindh => none
  | .ldindb => none
  | .ldinddw => none

/-- The `src` field of an instruction whose form uses it (R90). -/
def Instr.usedSrc : Instr → Option RegField
  | .addImm _ _ => none
  | .addSrc _ src => some src
  | .subImm _ _ => none
  | .subSrc _ src => some src
  | .mulImm _ _ => none
  | .mulSrc _ src => some src
  | .divImm _ _ => none
  | .divSrc _ src => some src
  | .orImm _ _ => none
  | .orSrc _ src => some src
  | .andImm _ _ => none
  | .andSrc _ src => some src
  | .lshImm _ _ => none
  | .lshSrc _ src => some src
  | .rshImm _ _ => none
  | .rshSrc _ src => some src
  | .modImm _ _ => none
  | .modSrc _ src => some src
  | .xorImm _ _ => none
  | .xorSrc _ src => some src
  | .movImm _ _ => none
  | .movSrc _ src => some src
  | .arshImm _ _ => none
  | .arshSrc _ src => some src
  | .neg _ => none
  | .add32Imm _ _ => none
  | .add32Src _ src => some src
  | .sub32Imm _ _ => none
  | .sub32Src _ src => some src
  | .mul32Imm _ _ => none
  | .mul32Src _ src => some src
  | .div32Imm _ _ => none
  | .div32Src _ src => some src
  | .or32Imm _ _ => none
  | .or32Src _ src => some src
  | .and32Imm _ _ => none
  | .and32Src _ src => some src
  | .lsh32Imm _ _ => none
  | .lsh32Src _ src => some src
  | .rsh32Imm _ _ => none
  | .rsh32Src _ src => some src
  | .mod32Imm _ _ => none
  | .mod32Src _ src => some src
  | .xor32Imm _ _ => none
  | .xor32Src _ src => some src
  | .mov32Imm _ _ => none
  | .mov32Src _ src => some src
  | .arsh32Imm _ _ => none
  | .arsh32Src _ src => some src
  | .neg32 _ => none
  | .le16 _ => none
  | .le32 _ => none
  | .le64 _ => none
  | .be16 _ => none
  | .be32 _ => none
  | .be64 _ => none
  | .ja _ => none
  | .jeqImm _ _ _ => none
  | .jeqSrc _ src _ => some src
  | .jgtImm _ _ _ => none
  | .jgtSrc _ src _ => some src
  | .jgeImm _ _ _ => none
  | .jgeSrc _ src _ => some src
  | .jsetImm _ _ _ => none
  | .jsetSrc _ src _ => some src
  | .jneImm _ _ _ => none
  | .jneSrc _ src _ => some src
  | .jsgtImm _ _ _ => none
  | .jsgtSrc _ src _ => some src
  | .jsgeImm _ _ _ => none
  | .jsgeSrc _ src _ => some src
  | .call _ => none
  | .exit => none
  | .lddw _ _ => none
  | .ldxw _ src _ => some src
  | .ldxh _ src _ => some src
  | .ldxb _ src _ => some src
  | .ldxdw _ src _ => some src
  | .stw _ _ _ => none
  | .sth _ _ _ => none
  | .stb _ _ _ => none
  | .stdw _ _ _ => none
  | .stxw _ src _ => some src
  | .stxh _ src _ => some src
  | .stxb _ src _ => some src
  | .stxdw _ src _ => some src
  | .ldabsw => none
  | .ldabsh => none
  | .ldabsb => none
  | .ldabsdw => none
  | .ldindw => none
  | .ldindh => none
  | .ldindb => none
  | .ldinddw => none

/-- The field names one of the registers R0..R10 (R25). -/
def RegField.named (f : RegField) : Bool := decide (f.toNat ≤ 10)

/-- Every register field the form uses names a register (R94). -/
def Instr.registersNamed (i : Instr) : Bool :=
  i.usedDst.all RegField.named && i.usedSrc.all RegField.named

/-- The instruction does not name R10 as the register it writes (R24). -/
def Instr.keepsFrameRegister (i : Instr) : Bool :=
  !(i.form.writesDst && i.usedDst == some 10)

/-- A well-formed instruction passes both register checks of the common prologue (R262, tests 4 and 5). -/
def Instr.WellFormed (i : Instr) : Bool := i.registersNamed && i.keepsFrameRegister

end Sys2Proof
end

