-- ==== Sys2Proof/Decode.lean ====
section
/-! DEFINITION. The codec: the field split of a 64-bit word (R81, R82), the validating encoder of five fields (R83), the
helper encoders (R85), the opcode map (R89, log entry 7), the decoder from words to instructions (R89 to R95), and the
encoder from instructions to words. -/

namespace Sys2Proof

/-! ## The five fields of a word -/

/-- The five fields of an instruction word, packed low to high (R81). -/
structure Fields where
  opcode : BitVec 8
  dst : RegField
  src : RegField
  offset : Offset
  imm : Imm
  deriving DecidableEq, Repr

/-- `decode(word)` of R82: pure, total, and it never looks at the opcode. -/
def decodeFields (w : Word) : Fields where
  opcode := w.extractLsb' 0 8
  dst := w.extractLsb' 8 4
  src := w.extractLsb' 12 4
  offset := w.extractLsb' 16 16
  imm := w.extractLsb' 32 32

/-- The five values of R82 as the integers the spec states them as: `offset` signed, the others unsigned. -/
def Fields.toInts (f : Fields) : Int × Int × Int × Int × Int :=
  (f.opcode.toNat, f.dst.toNat, f.src.toNat, f.offset.toInt, f.imm.toNat)

/-- The five field inserts of the picture of R81: `imm || offset || src || dst || opcode`. -/
def encodeFields (f : Fields) : Word := f.imm ++ f.offset ++ f.src ++ f.dst ++ f.opcode

/-- Which value the encoder refuses (R83, D29). -/
inductive EncodeError where
  | opcode | dst | src | offset | imm
  deriving DecidableEq, Repr

/-- `encode(opcode, dst, src, offset, imm)` of R83: five integers of any size, each validated in turn, never
truncated. -/
def encodeInts (opcode dst src offset imm : Int) : Except EncodeError Word :=
  if ¬ (0 ≤ opcode ∧ opcode ≤ 255) then .error .opcode
  else if ¬ (0 ≤ dst ∧ dst ≤ 15) then .error .dst
  else if ¬ (0 ≤ src ∧ src ≤ 15) then .error .src
  else if ¬ (-32768 ≤ offset ∧ offset ≤ 32767) then .error .offset
  else if ¬ (0 ≤ imm ∧ imm ≤ 2 ^ 32 - 1) then .error .imm
  else .ok (encodeFields ⟨.ofInt 8 opcode, .ofInt 4 dst, .ofInt 4 src, .ofInt 16 offset, .ofInt 32 imm⟩)

/-- `enc_alu_reg` (R85). -/
def encAluReg (opcode dst src : Int) : Except EncodeError Word := encodeInts opcode dst src 0 0

/-- `enc_alu_imm` (R85). -/
def encAluImm (opcode dst imm : Int) : Except EncodeError Word := encodeInts opcode dst 0 0 imm

/-- `enc_branch` (R85): the caller passes `src` 0 for the IMM form and `imm` 0 for the SRC form. -/
def encBranch (opcode dst src offset imm : Int) : Except EncodeError Word :=
  encodeInts opcode dst src offset imm

/-- `enc_mem` (R85): the caller passes `imm` 0 for ldx and stx, and `src` 0 for st. -/
def encMem (opcode dst src offset imm : Int) : Except EncodeError Word := encodeInts opcode dst src offset imm

/-! ## Words as bytes (a test bench's convention; the machine sees whole words) -/

/-- The word of eight bytes, least significant byte first (R68). -/
def wordOfBytes : List Byte → Option Word
  | [b0, b1, b2, b3, b4, b5, b6, b7] => some (b7 ++ b6 ++ b5 ++ b4 ++ b3 ++ b2 ++ b1 ++ b0)
  | _ => none

/-- The eight bytes of a word, least significant byte first (R68). -/
def bytesOfWord (w : Word) : List Byte := (List.range 8).map fun k => w.extractLsb' (8 * k) 8

/-! ## From words to instructions -/

/-- Why a word is no instruction: both are `IllegalInstruction` when executed (R92, R93, R265). -/
inductive DecodeError where
  /-- The opcode byte is not one of the 90 legal bytes (R92). -/
  | illegalOpcode (opcode : BitVec 8)
  /-- An `le` or `be` opcode whose `imm` is not 16, 32 or 64 (R93). -/
  | illegalEndWidth (imm : Imm)
  deriving DecidableEq, Repr

/-- The byte-order instruction that an `le` or `be` opcode's `imm` selects (R93). -/
def selectEndWidth (imm : Imm) (of16 of32 of64 : Instr) : Except DecodeError Instr :=
  match imm.toNat with
  | 16 => .ok of16
  | 32 => .ok of32
  | 64 => .ok of64
  | _ => .error (.illegalEndWidth imm)

/-- The instruction that split fields select: the opcode map of R89, each instruction taking the fields its form uses
(R90). -/
def selectInstr (f : Fields) : Except DecodeError Instr :=
  match f.opcode.toNat with
  | 0x04 => .ok (.add32Imm f.dst f.imm)
  | 0x05 => .ok (.ja f.offset)
  | 0x07 => .ok (.addImm f.dst f.imm)
  | 0x0c => .ok (.add32Src f.dst f.src)
  | 0x0f => .ok (.addSrc f.dst f.src)
  | 0x14 => .ok (.sub32Imm f.dst f.imm)
  | 0x15 => .ok (.jeqImm f.dst f.imm f.offset)
  | 0x17 => .ok (.subImm f.dst f.imm)
  | 0x18 => .ok (.lddw f.dst f.imm)
  | 0x1c => .ok (.sub32Src f.dst f.src)
  | 0x1d => .ok (.jeqSrc f.dst f.src f.offset)
  | 0x1f => .ok (.subSrc f.dst f.src)
  | 0x20 => .ok .ldabsw
  | 0x24 => .ok (.mul32Imm f.dst f.imm)
  | 0x25 => .ok (.jgtImm f.dst f.imm f.offset)
  | 0x27 => .ok (.mulImm f.dst f.imm)
  | 0x28 => .ok .ldabsh
  | 0x2c => .ok (.mul32Src f.dst f.src)
  | 0x2d => .ok (.jgtSrc f.dst f.src f.offset)
  | 0x2f => .ok (.mulSrc f.dst f.src)
  | 0x30 => .ok .ldabsb
  | 0x34 => .ok (.div32Imm f.dst f.imm)
  | 0x35 => .ok (.jgeImm f.dst f.imm f.offset)
  | 0x37 => .ok (.divImm f.dst f.imm)
  | 0x38 => .ok .ldabsdw
  | 0x3c => .ok (.div32Src f.dst f.src)
  | 0x3d => .ok (.jgeSrc f.dst f.src f.offset)
  | 0x3f => .ok (.divSrc f.dst f.src)
  | 0x40 => .ok .ldindw
  | 0x44 => .ok (.or32Imm f.dst f.imm)
  | 0x45 => .ok (.jsetImm f.dst f.imm f.offset)
  | 0x47 => .ok (.orImm f.dst f.imm)
  | 0x48 => .ok .ldindh
  | 0x4c => .ok (.or32Src f.dst f.src)
  | 0x4d => .ok (.jsetSrc f.dst f.src f.offset)
  | 0x4f => .ok (.orSrc f.dst f.src)
  | 0x50 => .ok .ldindb
  | 0x54 => .ok (.and32Imm f.dst f.imm)
  | 0x55 => .ok (.jneImm f.dst f.imm f.offset)
  | 0x57 => .ok (.andImm f.dst f.imm)
  | 0x58 => .ok .ldinddw
  | 0x5c => .ok (.and32Src f.dst f.src)
  | 0x5d => .ok (.jneSrc f.dst f.src f.offset)
  | 0x5f => .ok (.andSrc f.dst f.src)
  | 0x61 => .ok (.ldxw f.dst f.src f.offset)
  | 0x62 => .ok (.stw f.dst f.offset f.imm)
  | 0x63 => .ok (.stxw f.dst f.src f.offset)
  | 0x64 => .ok (.lsh32Imm f.dst f.imm)
  | 0x65 => .ok (.jsgtImm f.dst f.imm f.offset)
  | 0x67 => .ok (.lshImm f.dst f.imm)
  | 0x69 => .ok (.ldxh f.dst f.src f.offset)
  | 0x6a => .ok (.sth f.dst f.offset f.imm)
  | 0x6b => .ok (.stxh f.dst f.src f.offset)
  | 0x6c => .ok (.lsh32Src f.dst f.src)
  | 0x6d => .ok (.jsgtSrc f.dst f.src f.offset)
  | 0x6f => .ok (.lshSrc f.dst f.src)
  | 0x71 => .ok (.ldxb f.dst f.src f.offset)
  | 0x72 => .ok (.stb f.dst f.offset f.imm)
  | 0x73 => .ok (.stxb f.dst f.src f.offset)
  | 0x74 => .ok (.rsh32Imm f.dst f.imm)
  | 0x75 => .ok (.jsgeImm f.dst f.imm f.offset)
  | 0x77 => .ok (.rshImm f.dst f.imm)
  | 0x79 => .ok (.ldxdw f.dst f.src f.offset)
  | 0x7a => .ok (.stdw f.dst f.offset f.imm)
  | 0x7b => .ok (.stxdw f.dst f.src f.offset)
  | 0x7c => .ok (.rsh32Src f.dst f.src)
  | 0x7d => .ok (.jsgeSrc f.dst f.src f.offset)
  | 0x7f => .ok (.rshSrc f.dst f.src)
  | 0x84 => .ok (.neg32 f.dst)
  | 0x85 => .ok (.call f.imm)
  | 0x87 => .ok (.neg f.dst)
  | 0x94 => .ok (.mod32Imm f.dst f.imm)
  | 0x95 => .ok .exit
  | 0x97 => .ok (.modImm f.dst f.imm)
  | 0x9c => .ok (.mod32Src f.dst f.src)
  | 0x9f => .ok (.modSrc f.dst f.src)
  | 0xa4 => .ok (.xor32Imm f.dst f.imm)
  | 0xa7 => .ok (.xorImm f.dst f.imm)
  | 0xac => .ok (.xor32Src f.dst f.src)
  | 0xaf => .ok (.xorSrc f.dst f.src)
  | 0xb4 => .ok (.mov32Imm f.dst f.imm)
  | 0xb7 => .ok (.movImm f.dst f.imm)
  | 0xbc => .ok (.mov32Src f.dst f.src)
  | 0xbf => .ok (.movSrc f.dst f.src)
  | 0xc4 => .ok (.arsh32Imm f.dst f.imm)
  | 0xc7 => .ok (.arshImm f.dst f.imm)
  | 0xcc => .ok (.arsh32Src f.dst f.src)
  | 0xcf => .ok (.arshSrc f.dst f.src)
  | 0xd4 => selectEndWidth f.imm (.le16 f.dst) (.le32 f.dst) (.le64 f.dst)
  | 0xdc => selectEndWidth f.imm (.be16 f.dst) (.be32 f.dst) (.be64 f.dst)
  | _ => .error (.illegalOpcode f.opcode)

/-- The decoder: total on all 2^64 words; a word that is no instruction is rejected by name. -/
def decode (w : Word) : Except DecodeError Instr := selectInstr (decodeFields w)

/-- The instruction the decoder reads from an instruction whose bits are `w`, numbered as spec/opcode_table.json numbers
them: the program store holds whole 64-bit words (R68), so the word is those bits, every bit above `nbits` zero. -/
def decodeTableWord (nbits w : Nat) : Option Instr := (decode (BitVec.ofNat 64 (w % 2 ^ nbits))).toOption

/-! ## From instructions to words -/

/-- The five fields of an instruction: its opcode byte (R89), the fields its form uses, zero in the others (R91,
D28). -/
def Instr.fields : Instr → Fields
  | .addImm dst imm => ⟨0x07, dst, 0, 0, imm⟩
  | .addSrc dst src => ⟨0x0f, dst, src, 0, 0⟩
  | .subImm dst imm => ⟨0x17, dst, 0, 0, imm⟩
  | .subSrc dst src => ⟨0x1f, dst, src, 0, 0⟩
  | .mulImm dst imm => ⟨0x27, dst, 0, 0, imm⟩
  | .mulSrc dst src => ⟨0x2f, dst, src, 0, 0⟩
  | .divImm dst imm => ⟨0x37, dst, 0, 0, imm⟩
  | .divSrc dst src => ⟨0x3f, dst, src, 0, 0⟩
  | .orImm dst imm => ⟨0x47, dst, 0, 0, imm⟩
  | .orSrc dst src => ⟨0x4f, dst, src, 0, 0⟩
  | .andImm dst imm => ⟨0x57, dst, 0, 0, imm⟩
  | .andSrc dst src => ⟨0x5f, dst, src, 0, 0⟩
  | .lshImm dst imm => ⟨0x67, dst, 0, 0, imm⟩
  | .lshSrc dst src => ⟨0x6f, dst, src, 0, 0⟩
  | .rshImm dst imm => ⟨0x77, dst, 0, 0, imm⟩
  | .rshSrc dst src => ⟨0x7f, dst, src, 0, 0⟩
  | .modImm dst imm => ⟨0x97, dst, 0, 0, imm⟩
  | .modSrc dst src => ⟨0x9f, dst, src, 0, 0⟩
  | .xorImm dst imm => ⟨0xa7, dst, 0, 0, imm⟩
  | .xorSrc dst src => ⟨0xaf, dst, src, 0, 0⟩
  | .movImm dst imm => ⟨0xb7, dst, 0, 0, imm⟩
  | .movSrc dst src => ⟨0xbf, dst, src, 0, 0⟩
  | .arshImm dst imm => ⟨0xc7, dst, 0, 0, imm⟩
  | .arshSrc dst src => ⟨0xcf, dst, src, 0, 0⟩
  | .neg dst => ⟨0x87, dst, 0, 0, 0⟩
  | .add32Imm dst imm => ⟨0x04, dst, 0, 0, imm⟩
  | .add32Src dst src => ⟨0x0c, dst, src, 0, 0⟩
  | .sub32Imm dst imm => ⟨0x14, dst, 0, 0, imm⟩
  | .sub32Src dst src => ⟨0x1c, dst, src, 0, 0⟩
  | .mul32Imm dst imm => ⟨0x24, dst, 0, 0, imm⟩
  | .mul32Src dst src => ⟨0x2c, dst, src, 0, 0⟩
  | .div32Imm dst imm => ⟨0x34, dst, 0, 0, imm⟩
  | .div32Src dst src => ⟨0x3c, dst, src, 0, 0⟩
  | .or32Imm dst imm => ⟨0x44, dst, 0, 0, imm⟩
  | .or32Src dst src => ⟨0x4c, dst, src, 0, 0⟩
  | .and32Imm dst imm => ⟨0x54, dst, 0, 0, imm⟩
  | .and32Src dst src => ⟨0x5c, dst, src, 0, 0⟩
  | .lsh32Imm dst imm => ⟨0x64, dst, 0, 0, imm⟩
  | .lsh32Src dst src => ⟨0x6c, dst, src, 0, 0⟩
  | .rsh32Imm dst imm => ⟨0x74, dst, 0, 0, imm⟩
  | .rsh32Src dst src => ⟨0x7c, dst, src, 0, 0⟩
  | .mod32Imm dst imm => ⟨0x94, dst, 0, 0, imm⟩
  | .mod32Src dst src => ⟨0x9c, dst, src, 0, 0⟩
  | .xor32Imm dst imm => ⟨0xa4, dst, 0, 0, imm⟩
  | .xor32Src dst src => ⟨0xac, dst, src, 0, 0⟩
  | .mov32Imm dst imm => ⟨0xb4, dst, 0, 0, imm⟩
  | .mov32Src dst src => ⟨0xbc, dst, src, 0, 0⟩
  | .arsh32Imm dst imm => ⟨0xc4, dst, 0, 0, imm⟩
  | .arsh32Src dst src => ⟨0xcc, dst, src, 0, 0⟩
  | .neg32 dst => ⟨0x84, dst, 0, 0, 0⟩
  | .le16 dst => ⟨0xd4, dst, 0, 0, 16⟩
  | .le32 dst => ⟨0xd4, dst, 0, 0, 32⟩
  | .le64 dst => ⟨0xd4, dst, 0, 0, 64⟩
  | .be16 dst => ⟨0xdc, dst, 0, 0, 16⟩
  | .be32 dst => ⟨0xdc, dst, 0, 0, 32⟩
  | .be64 dst => ⟨0xdc, dst, 0, 0, 64⟩
  | .ja offset => ⟨0x05, 0, 0, offset, 0⟩
  | .jeqImm dst imm offset => ⟨0x15, dst, 0, offset, imm⟩
  | .jeqSrc dst src offset => ⟨0x1d, dst, src, offset, 0⟩
  | .jgtImm dst imm offset => ⟨0x25, dst, 0, offset, imm⟩
  | .jgtSrc dst src offset => ⟨0x2d, dst, src, offset, 0⟩
  | .jgeImm dst imm offset => ⟨0x35, dst, 0, offset, imm⟩
  | .jgeSrc dst src offset => ⟨0x3d, dst, src, offset, 0⟩
  | .jsetImm dst imm offset => ⟨0x45, dst, 0, offset, imm⟩
  | .jsetSrc dst src offset => ⟨0x4d, dst, src, offset, 0⟩
  | .jneImm dst imm offset => ⟨0x55, dst, 0, offset, imm⟩
  | .jneSrc dst src offset => ⟨0x5d, dst, src, offset, 0⟩
  | .jsgtImm dst imm offset => ⟨0x65, dst, 0, offset, imm⟩
  | .jsgtSrc dst src offset => ⟨0x6d, dst, src, offset, 0⟩
  | .jsgeImm dst imm offset => ⟨0x75, dst, 0, offset, imm⟩
  | .jsgeSrc dst src offset => ⟨0x7d, dst, src, offset, 0⟩
  | .call imm => ⟨0x85, 0, 0, 0, imm⟩
  | .exit => ⟨0x95, 0, 0, 0, 0⟩
  | .lddw dst imm => ⟨0x18, dst, 0, 0, imm⟩
  | .ldxw dst src offset => ⟨0x61, dst, src, offset, 0⟩
  | .ldxh dst src offset => ⟨0x69, dst, src, offset, 0⟩
  | .ldxb dst src offset => ⟨0x71, dst, src, offset, 0⟩
  | .ldxdw dst src offset => ⟨0x79, dst, src, offset, 0⟩
  | .stw dst offset imm => ⟨0x62, dst, 0, offset, imm⟩
  | .sth dst offset imm => ⟨0x6a, dst, 0, offset, imm⟩
  | .stb dst offset imm => ⟨0x72, dst, 0, offset, imm⟩
  | .stdw dst offset imm => ⟨0x7a, dst, 0, offset, imm⟩
  | .stxw dst src offset => ⟨0x63, dst, src, offset, 0⟩
  | .stxh dst src offset => ⟨0x6b, dst, src, offset, 0⟩
  | .stxb dst src offset => ⟨0x73, dst, src, offset, 0⟩
  | .stxdw dst src offset => ⟨0x7b, dst, src, offset, 0⟩
  | .ldabsw => ⟨0x20, 0, 0, 0, 0⟩
  | .ldabsh => ⟨0x28, 0, 0, 0, 0⟩
  | .ldabsb => ⟨0x30, 0, 0, 0, 0⟩
  | .ldabsdw => ⟨0x38, 0, 0, 0, 0⟩
  | .ldindw => ⟨0x40, 0, 0, 0, 0⟩
  | .ldindh => ⟨0x48, 0, 0, 0, 0⟩
  | .ldindb => ⟨0x50, 0, 0, 0, 0⟩
  | .ldinddw => ⟨0x58, 0, 0, 0, 0⟩

/-- The opcode byte of an instruction: the parameter `OPCODE_MAP` (R89). -/
def Instr.opcode (i : Instr) : BitVec 8 := i.fields.opcode

/-- The encoder: the one word of an instruction. -/
def encode (i : Instr) : Word := encodeFields i.fields

end Sys2Proof
end

