-- ==== Sys2Proof/Machine/State.lean ====
section
/-! DEFINITION. The machine's state, as plain data: every piece of state of R20 to R36 (INVENTORY.md lists each with its
rule), the reasons a step of the model can stop, and the state after reset (R38). -/

namespace Sys2Proof.Machine

/-- The number of a register R0..R10 (R20). -/
abbrev RegIdx := Fin 11

/-- `STATE`, the control state (R31). -/
inductive Control where
  | ready | running | halted
  deriving DecidableEq, Repr

/-- The causes of a machine fault (R32, R260). Taking one is a step of the machine: it is recorded in `FAULT` and the
machine halts (R270). -/
inductive Cause where
  /-- Fetch with `pc` outside the program (R264). -/
  | pcOutOfBounds
  /-- A load or store outside scratch memory (R269). -/
  | memOutOfBounds
  /-- A zero divisor (R268). -/
  | divideByZero
  /-- A word that is no instruction (R265). -/
  | illegalInstruction
  /-- A used register field that holds 11..15 (R266). -/
  | invalidRegister
  /-- A write to R10 (R267). -/
  | readOnlyRegister
  deriving DecidableEq, Repr

/-- Scratch memory (R35): address and byte pairs. Its canonical form lists every scratch address once, in rising order,
and no other address (log entry 6). -/
abbrev Memory := List Host.Cell

/-- The state of the machine between two steps. -/
structure State where
  /-- `x[0]`..`x[10]` (R20). -/
  regs : Vector Word 11
  /-- The program counter, a slot index (R27; log entry 3). -/
  pc : Int
  /-- `STATE` (R31). -/
  control : Control
  /-- `FAULT`: `none` is the spec's `None` (R32). -/
  fault : Option Cause
  /-- `UNSUP` (R33). -/
  unsup : Bool
  /-- `UNSUP_COUNT` (R33; log entry 4). -/
  unsupCount : Nat
  /-- `mem[0..127]` (R35). -/
  mem : Memory
  /-- The model's own field: `PROG`, whose length is `PROG_LEN`, the program of the run (R12, R36; log entry 1). -/
  program : List Word
  deriving DecidableEq, Repr

/-- Why `step` takes no step. Only `step` raises these, and only outside Running, where R40 says that no state changes;
no instruction's meaning does. Both are safe: no claim about a next state follows from them (log entry 2). -/
inductive Fault where
  /-- `STATE` is Ready: the machine waits for the host's `run` (R31, R297). Safe. -/
  | notReadyToStep
  /-- `STATE` is Halted: only the host's `reset` leaves it (R31, R290). Safe. -/
  | alreadyHalted
  deriving DecidableEq, Repr

/-- Why an instruction is refused. -/
inductive Refusal where
  /-- The instruction has no meaning in this model yet. Raised by `exec` alone; no arm of this model raises it. Safe. -/
  | notModelled (mnemonic : String)
  deriving DecidableEq, Repr

/-- The outcome of a step or of an instruction. -/
abbrev Outcome := Host.Outcome State Fault Refusal

/-- Scratch memory whose byte at each scratch address is the one given. -/
def Memory.ofBytes (byteAt : Nat → Byte) : Memory :=
  (List.range Config.memSize).map fun k => (Config.memBase + k, byteAt (Config.memBase + k))

/-- The state that reset leaves, for any `MEM_INIT` (R38): the table of R38, and no program, since a program comes with
the host's `run` (R293, R297). -/
def State.resetWith (memInit : Nat → Byte) : State where
  regs := Vector.replicate 11 0
  pc := 0
  control := .ready
  fault := none
  unsup := false
  unsupCount := 0
  mem := Memory.ofBytes memInit
  program := []

/-- The machine right after reset: the table of R38, with the free value for `MEM_INIT` (log entry 5). -/
def State.reset : State := State.resetWith Config.memInit

end Sys2Proof.Machine
end

