-- ==== Sys2Proof/Machine/Ops.lean ====
section
/-! DEFINITION. The named operations on the state: register views (R22, R23), `pc` (R28), scratch memory (R51 to R60),
fetch (R68, R69), and taking a fault (R270). There is no return from a fault: the machine has no handler, and Halted is
left only by the host's reset (R273, R290). -/

namespace Sys2Proof.Machine

/-! ## Registers -/

/-- `read64(i)` (R22). -/
def State.read64 (s : State) (i : RegIdx) : Word := s.regs[i]

/-- `write64(i, v)` (R22). -/
def State.write64 (s : State) (i : RegIdx) (v : Word) : State := { s with regs := s.regs.set i v }

/-- `read32(i)`: bits 31..0 (R22). -/
def State.read32 (s : State) (i : RegIdx) : BitVec 32 := (s.read64 i).extractLsb' 0 32

/-- `write32(i, v)`: the whole register becomes `zext_64(v)` (R22). -/
def State.write32 (s : State) (i : RegIdx) (v : BitVec 32) : State := s.write64 i (v.setWidth 64)

/-- `readhi32(i)`: bits 63..32 (R23). No instruction uses it. -/
def State.readHi32 (s : State) (i : RegIdx) : BitVec 32 := (s.read64 i).extractLsb' 32 32

/-- `writehi32(i, v)`: bits 63..32 become `v`, the low half is kept (R23). No instruction uses it. -/
def State.writeHi32 (s : State) (i : RegIdx) (v : BitVec 32) : State := s.write64 i (v ++ s.read32 i)

/-- `RESULT` is `x[0]` (R34). -/
def State.result (s : State) : Word := s.read64 0

/-- R10, the register that programs may only read (R24). -/
def frameRegister : RegIdx := 10

/-! ## Program counter -/

/-- `pc <- pc + 1` (R28). -/
def State.advance (s : State) : State := { s with pc := s.pc + 1 }

/-- The target of a taken jump: relative to the next slot (R28, R200). -/
def State.jumpTarget (s : State) (offset : Offset) : Int := s.pc + 1 + offset.toInt

/-- `pc <- t` (R6). -/
def State.goto (s : State) (t : Int) : State := { s with pc := t }

/-! ## Faults and halting -/

/-- Fault entry (R270): `STATE <- Halted`, `FAULT <- c`, and nothing else changes. -/
def takeFault (c : Cause) (s : State) : State := { s with control := .halted, fault := some c }

/-- The outcome of an instruction's rule on state `s`: the state it computed, or, where it raised a cause, fault entry
on `s` as it was before the step, so that the faulting instruction leaves no trace (R6 `raise`, R270). -/
def settle (s : State) : Except Cause State → Outcome
  | .ok t => .next t
  | .error c => .next (takeFault c s)

/-- Normal halt (R221, R276). -/
def State.halt (s : State) : State := { s with control := .halted }

/-- The report of a packet load (R33, R250). -/
def State.reportUnsupported (s : State) : State := { s with unsup := true, unsupCount := s.unsupCount + 1 }

/-- The 2-bit code of `STATE` (R31). -/
def Control.code : Control → BitVec 2
  | .ready => 0
  | .running => 1
  | .halted => 2

/-- The 3-bit code of `FAULT` (R32). -/
def faultCode : Option Cause → BitVec 3
  | none => 0
  | some .pcOutOfBounds => 1
  | some .memOutOfBounds => 2
  | some .divideByZero => 3
  | some .illegalInstruction => 4
  | some .invalidRegister => 5
  | some .readOnlyRegister => 6

/-! ## Scratch memory -/

/-- The canonical form of scratch memory: exactly the scratch addresses, in rising order (log entry 6). -/
abbrev Memory.wf (m : Memory) : Prop :=
  m.map Prod.fst = (List.range Config.memSize).map (Config.memBase + ·)

/-- What the total read answers for an unlisted address. In canonical form those are the addresses outside scratch memory:
they hold no byte, and no admitted access reaches them (R53, log entry 6). -/
def Memory.unlisted : Byte := 0

/-- The byte at an address. -/
def Memory.readByte (m : Memory) (a : Nat) : Byte := (m.lookup a).getD Memory.unlisted

/-- `mem[a] <- b` for a scratch byte; an address that is not scratch memory holds no byte and is not added. -/
def Memory.writeByte (m : Memory) (a : Nat) (b : Byte) : Memory :=
  m.map fun cell => if cell.1 = a then (a, b) else cell

/-- The little-endian value of `n` bytes from `a` up: the sum of `mem[a + k] * 2^(8k)` (R54, R55). -/
def Memory.readLE (m : Memory) (a : Nat) : Nat → Nat
  | 0 => 0
  | n + 1 => (m.readByte a).toNat + 2 ^ 8 * Memory.readLE m (a + 1) n

/-- The low `n` bytes of `v` stored from `a` up, least significant first: `mem[a + k] <- v[8k+7 : 8k]` (R54, R56). -/
def Memory.writeLE (m : Memory) (a : Nat) (v : Word) : Nat → Memory
  | 0 => m
  | n + 1 => Memory.writeLE (m.writeByte a (v.extractLsb' 0 8)) (a + 1) (v >>> 8) n

/-- The width of a memory access (R58). -/
inductive Width where
  | byte | half | word | dword
  deriving DecidableEq, Repr

/-- The number of bytes of a width (R58). -/
def Width.bytes : Width → Nat
  | .byte => 1
  | .half => 2
  | .word => 4
  | .dword => 8

/-- `EA(b, offset)`: the exact sum, not reduced modulo 2^64 (R52). -/
def effectiveAddress (base : Word) (offset : Offset) : Int := base.toNat + offset.toInt

/-- The bounds check of an access of `n` bytes (R53). -/
def inBounds (ea : Int) (n : Nat) : Bool :=
  decide ((Config.memBase : Int) ≤ ea ∧ ea + n ≤ Config.memBase + Config.memSize)

/-- `MemRead(addr, n)`, zero-extended to 64 bits (R55, R58). -/
def memRead (w : Width) (ea : Int) (s : State) : Except Cause Word :=
  if inBounds ea w.bytes then .ok (BitVec.ofNat 64 (s.mem.readLE ea.toNat w.bytes)) else .error .memOutOfBounds

/-- `MemWrite(addr, n, v)` with `v` the low `8n` bits of a 64-bit value (R56, R58). -/
def memWrite (w : Width) (ea : Int) (v : Word) (s : State) : Except Cause State :=
  if inBounds ea w.bytes then .ok { s with mem := s.mem.writeLE ea.toNat v w.bytes } else .error .memOutOfBounds

/-! ## Fetch -/

/-- Fetch at `pc`: the word `PROG[pc]`, or `PcOutOfBounds` outside `[0, PROG_LEN)` (R29, R68, R69). -/
def fetch (s : State) : Except Cause Word :=
  if s.pc < 0 then .error .pcOutOfBounds
  else
    match s.program[s.pc.toNat]? with
    | some w => .ok w
    | none => .error .pcOutOfBounds

end Sys2Proof.Machine
end

