-- ==== Sys2Proof/Machine/Flags.lean ====
section
/-! DEFINITION. The machine has no status flags (R30): nothing records carry, overflow, zero or sign, and no instruction
writes a flag. What other machines decide from flags, a conditional jump of this one decides from its two operands
(R200). Those seven conditions are here; each compares all 64 bits (D13). -/

namespace Sys2Proof.Machine

/-- `a = b` (R204). -/
def condEq (a b : Word) : Bool := a == b

/-- `unsigned(a) > unsigned(b)` (R206). -/
def condGt (a b : Word) : Bool := b.ult a

/-- `unsigned(a) >= unsigned(b)` (R208). -/
def condGe (a b : Word) : Bool := b.ule a

/-- `(a & b) != 0` (R210). -/
def condSet (a b : Word) : Bool := (a &&& b) != 0

/-- `a != b` (R212). -/
def condNe (a b : Word) : Bool := a != b

/-- `signed_64(a) > signed_64(b)` (R214). -/
def condSgt (a b : Word) : Bool := b.slt a

/-- `signed_64(a) >= signed_64(b)` (R216). -/
def condSge (a b : Word) : Bool := b.sle a

end Sys2Proof.Machine
end

