-- ==== Sys2Proof/Machine/Operands.lean ====
section
/-! DEFINITION. The operand side of the instructions: the register checks of the common prologue (R262, tests 4 and 5),
the readings of `imm` (R87), shift amounts, byte reversal (R6), and one shape for each form of R90. A shape runs the
prologue's checks in the order of R262 and then the rule, as an `Except`: raising a cause discards whatever the rule had
computed (R6, R270). -/

namespace Sys2Proof.Machine

/-! ## Register fields -/

/-- A register field that the form uses: the register it names, or `InvalidRegister` on 11..15 (R25, R266). -/
def usedReg (f : RegField) : Except Cause RegIdx :=
  if h : f.toNat < 11 then .ok ⟨f.toNat, h⟩ else .error .invalidRegister

/-- The check of a `dst` that the form writes: `ReadOnlyRegister` on R10 (R24, R267). -/
def writable (d : RegIdx) : Except Cause RegIdx :=
  if d = frameRegister then .error .readOnlyRegister else .ok d

/-- The prologue of a form that writes `dst` and uses no `src` (R262). -/
def writesDst (dst : RegField) : Except Cause RegIdx := do
  let d ← usedReg dst
  writable d

/-- The prologue of a form that writes `dst` and reads `src` (R262: both fields are tested before R10 is). -/
def writesDstReadsSrc (dst src : RegField) : Except Cause (RegIdx × RegIdx) := do
  let d ← usedReg dst
  let r ← usedReg src
  let d ← writable d
  return (d, r)

/-- The prologue of a form that reads `dst` and `src` (R262). -/
def readsDstSrc (dst src : RegField) : Except Cause (RegIdx × RegIdx) := do
  let d ← usedReg dst
  let r ← usedReg src
  return (d, r)

/-! ## Immediates, shift amounts, byte reversal -/

/-- `ext64(imm)`: sign extension, since `IMM64_EXT` = sign (R6, R87, D5). -/
def ext64 (imm : Imm) : Word := imm.signExtend 64

/-- `zext_64(imm)` (R6, R87). -/
def zext64 (imm : Imm) : Word := imm.setWidth 64

/-- The shift amount `b & 63` of the 64-bit shifts (R144, D8). -/
def shiftAmount64 (b : Word) : Nat := (b &&& Config.shiftMask64).toNat

/-- The shift amount `b & 31` of the 32-bit shifts (R174, D8). -/
def shiftAmount32 (b : BitVec 32) : Nat := (b &&& Config.shiftMask32).toNat

/-- `bswap_16` (R6). -/
def bswap16 (v : BitVec 16) : BitVec 16 := v.extractLsb' 0 8 ++ v.extractLsb' 8 8

/-- `bswap_32` (R6). -/
def bswap32 (v : BitVec 32) : BitVec 32 := bswap16 (v.extractLsb' 0 16) ++ bswap16 (v.extractLsb' 16 16)

/-- `bswap_64` (R6). -/
def bswap64 (v : Word) : Word := bswap32 (v.extractLsb' 0 32) ++ bswap32 (v.extractLsb' 32 32)

/-! ## 64-bit ALU forms (R130) -/

/-- `ALU_IMM`, 64 bits: `x[dst] <- op(x[dst], ext64(imm))`, `pc <- pc + 1` (R130). -/
def alu64Imm (op : Word → Word → Except Cause Word) (dst : RegField) (imm : Imm) (s : State) :
    Except Cause State := do
  let d ← writesDst dst
  let r ← op (s.read64 d) (ext64 imm)
  return (s.write64 d r).advance

/-- `ALU_SRC`, 64 bits: both operands are read before `dst` is written (R130). -/
def alu64Src (op : Word → Word → Except Cause Word) (dst src : RegField) (s : State) : Except Cause State := do
  let (d, r) ← writesDstReadsSrc dst src
  let v ← op (s.read64 d) (s.read64 r)
  return (s.write64 d v).advance

/-- A 64-bit shift by `imm & 63` (R130, R144). -/
def shift64Imm (op : Word → Nat → Word) (dst : RegField) (imm : Imm) (s : State) : Except Cause State := do
  let d ← writesDst dst
  return (s.write64 d (op (s.read64 d) (shiftAmount64 (zext64 imm)))).advance

/-- A 64-bit shift by `x[src] & 63` (R130, R145). -/
def shift64Src (op : Word → Nat → Word) (dst src : RegField) (s : State) : Except Cause State := do
  let (d, r) ← writesDstReadsSrc dst src
  return (s.write64 d (op (s.read64 d) (shiftAmount64 (s.read64 r)))).advance

/-- A form that replaces `dst` by a function of its own 64 bits: `neg` (R156) and the byte-order conversions (R190). -/
def unary64 (op : Word → Word) (dst : RegField) (s : State) : Except Cause State := do
  let d ← writesDst dst
  return (s.write64 d (op (s.read64 d))).advance

/-! ## 32-bit ALU forms (R160) -/

/-- `ALU_IMM`, 32 bits: the operands are `x32[dst]` and `imm` as it stands, the write is `write32` (R160). -/
def alu32Imm (op : BitVec 32 → BitVec 32 → Except Cause (BitVec 32)) (dst : RegField) (imm : Imm) (s : State) :
    Except Cause State := do
  let d ← writesDst dst
  let r ← op (s.read32 d) imm
  return (s.write32 d r).advance

/-- `ALU_SRC`, 32 bits: the operands are `x32[dst]` and `x32[src]` (R160). -/
def alu32Src (op : BitVec 32 → BitVec 32 → Except Cause (BitVec 32)) (dst src : RegField) (s : State) :
    Except Cause State := do
  let (d, r) ← writesDstReadsSrc dst src
  let v ← op (s.read32 d) (s.read32 r)
  return (s.write32 d v).advance

/-- A 32-bit shift by `imm & 31` (R160, R174). -/
def shift32Imm (op : BitVec 32 → Nat → BitVec 32) (dst : RegField) (imm : Imm) (s : State) :
    Except Cause State := do
  let d ← writesDst dst
  return (s.write32 d (op (s.read32 d) (shiftAmount32 imm))).advance

/-- A 32-bit shift by `x32[src] & 31` (R160, R175). -/
def shift32Src (op : BitVec 32 → Nat → BitVec 32) (dst src : RegField) (s : State) : Except Cause State := do
  let (d, r) ← writesDstReadsSrc dst src
  return (s.write32 d (op (s.read32 d) (shiftAmount32 (s.read32 r)))).advance

/-- `ALU_UNARY`, 32 bits (R186). -/
def unary32 (op : BitVec 32 → BitVec 32) (dst : RegField) (s : State) : Except Cause State := do
  let d ← writesDst dst
  return (s.write32 d (op (s.read32 d))).advance

/-! ## Jump forms (R200) -/

/-- The two ways a conditional jump leaves `pc` (R200). -/
def State.branch (s : State) (taken : Bool) (offset : Offset) : State :=
  if taken then s.goto (s.jumpTarget offset) else s.advance

/-- `JMP_IMM`: `x[dst]` against `ext64(imm)` (R200). -/
def jumpImm (cond : Word → Word → Bool) (dst : RegField) (imm : Imm) (offset : Offset) (s : State) :
    Except Cause State := do
  let d ← usedReg dst
  return s.branch (cond (s.read64 d) (ext64 imm)) offset

/-- `JMP_SRC`: `x[dst]` against `x[src]` (R200). -/
def jumpSrc (cond : Word → Word → Bool) (dst src : RegField) (offset : Offset) (s : State) :
    Except Cause State := do
  let (d, r) ← readsDstSrc dst src
  return s.branch (cond (s.read64 d) (s.read64 r)) offset

/-! ## Load and store forms (R230) -/

/-- `LDX`: `x[dst] <- zext_64(MemRead(x[src] + offset))`; the base is read before `dst` is written (R230, R232). -/
def loadReg (w : Width) (dst src : RegField) (offset : Offset) (s : State) : Except Cause State := do
  let (d, base) ← writesDstReadsSrc dst src
  let v ← memRead w (effectiveAddress (s.read64 base) offset) s
  return (s.write64 d v).advance

/-- `ST`: `MemWrite(x[dst] + offset, v)` with `v` made from `imm` (R230, R236). -/
def storeImm (w : Width) (v : Word) (dst : RegField) (offset : Offset) (s : State) : Except Cause State := do
  let base ← usedReg dst
  let t ← memWrite w (effectiveAddress (s.read64 base) offset) v s
  return t.advance

/-- `STX`: `MemWrite(x[dst] + offset, x[src])` (R230, R240). -/
def storeReg (w : Width) (dst src : RegField) (offset : Offset) (s : State) : Except Cause State := do
  let (base, r) ← readsDstSrc dst src
  let t ← memWrite w (effectiveAddress (s.read64 base) offset) (s.read64 r) s
  return t.advance

end Sys2Proof.Machine
end

