-- ==== Sys2Proof/Machine/Alu32.lean ====
section
/-! DEFINITION. The 32-bit ALU instructions (R160 to R187): the twelve two-operand operations in IMM and SRC forms,
and `neg32`. The operations are on the low halves; the shapes of Operands.lean clear the upper half of `dst` (R160).
-/

namespace Sys2Proof.Machine

/-- Sum modulo 2^32 (R162). -/
def add32 (a b : BitVec 32) : Except Cause (BitVec 32) := .ok (a + b)

/-- Difference `a - b` modulo 2^32 (R164). -/
def sub32 (a b : BitVec 32) : Except Cause (BitVec 32) := .ok (a - b)

/-- The low 32 bits of the product (R166). -/
def mul32 (a b : BitVec 32) : Except Cause (BitVec 32) := .ok (a * b)

/-- Unsigned quotient (`DIV_SIGNED` = false), `DivideByZero` on a zero divisor (R168, R268). -/
def div32 (a b : BitVec 32) : Except Cause (BitVec 32) := if b = 0 then .error .divideByZero else .ok (a / b)

/-- Unsigned remainder, `DivideByZero` on a zero divisor (R178, R268). -/
def mod32 (a b : BitVec 32) : Except Cause (BitVec 32) := if b = 0 then .error .divideByZero else .ok (a % b)

/-- Bitwise or (R170). -/
def or32 (a b : BitVec 32) : Except Cause (BitVec 32) := .ok (a ||| b)

/-- Bitwise and (R172). -/
def and32 (a b : BitVec 32) : Except Cause (BitVec 32) := .ok (a &&& b)

/-- Bitwise exclusive or (R180). -/
def xor32 (a b : BitVec 32) : Except Cause (BitVec 32) := .ok (a ^^^ b)

/-- The second operand (R182). -/
def mov32 (_a b : BitVec 32) : Except Cause (BitVec 32) := .ok b

/-- Logical shift left (R174). -/
def lsh32 (a : BitVec 32) (n : Nat) : BitVec 32 := a <<< n

/-- Logical shift right (R176). -/
def rsh32 (a : BitVec 32) (n : Nat) : BitVec 32 := a >>> n

/-- Arithmetic shift right, `asr_32` (R184, R6). -/
def arsh32 (a : BitVec 32) (n : Nat) : BitVec 32 := a.sshiftRight n

/-- Two's-complement negation, `NEG_MODE` = twos (R186, D9). -/
def neg32 (a : BitVec 32) : BitVec 32 := 0 - a

/-- `add32 rD #imm`: 32-bit add, IMM form (R162). -/
def execAdd32Imm (dst : RegField) (imm : Imm) (s : State) : Outcome :=
  settle s (alu32Imm add32 dst imm s)

/-- `add32 rD rS`: 32-bit add, SRC form (R163). -/
def execAdd32Src (dst : RegField) (src : RegField) (s : State) : Outcome :=
  settle s (alu32Src add32 dst src s)

/-- `sub32 rD #imm`: 32-bit subtract, IMM form (R164). -/
def execSub32Imm (dst : RegField) (imm : Imm) (s : State) : Outcome :=
  settle s (alu32Imm sub32 dst imm s)

/-- `sub32 rD rS`: 32-bit subtract, SRC form (R165). -/
def execSub32Src (dst : RegField) (src : RegField) (s : State) : Outcome :=
  settle s (alu32Src sub32 dst src s)

/-- `mul32 rD #imm`: 32-bit multiply, IMM form (R166). -/
def execMul32Imm (dst : RegField) (imm : Imm) (s : State) : Outcome :=
  settle s (alu32Imm mul32 dst imm s)

/-- `mul32 rD rS`: 32-bit multiply, SRC form (R167). -/
def execMul32Src (dst : RegField) (src : RegField) (s : State) : Outcome :=
  settle s (alu32Src mul32 dst src s)

/-- `div32 rD #imm`: 32-bit unsigned divide, IMM form (R168). -/
def execDiv32Imm (dst : RegField) (imm : Imm) (s : State) : Outcome :=
  settle s (alu32Imm div32 dst imm s)

/-- `div32 rD rS`: 32-bit unsigned divide, SRC form (R169). -/
def execDiv32Src (dst : RegField) (src : RegField) (s : State) : Outcome :=
  settle s (alu32Src div32 dst src s)

/-- `or32 rD #imm`: 32-bit bitwise or, IMM form (R170). -/
def execOr32Imm (dst : RegField) (imm : Imm) (s : State) : Outcome :=
  settle s (alu32Imm or32 dst imm s)

/-- `or32 rD rS`: 32-bit bitwise or, SRC form (R171). -/
def execOr32Src (dst : RegField) (src : RegField) (s : State) : Outcome :=
  settle s (alu32Src or32 dst src s)

/-- `and32 rD #imm`: 32-bit bitwise and, IMM form (R172). -/
def execAnd32Imm (dst : RegField) (imm : Imm) (s : State) : Outcome :=
  settle s (alu32Imm and32 dst imm s)

/-- `and32 rD rS`: 32-bit bitwise and, SRC form (R173). -/
def execAnd32Src (dst : RegField) (src : RegField) (s : State) : Outcome :=
  settle s (alu32Src and32 dst src s)

/-- `lsh32 rD #imm`: 32-bit logical shift left, IMM form (R174). -/
def execLsh32Imm (dst : RegField) (imm : Imm) (s : State) : Outcome :=
  settle s (shift32Imm lsh32 dst imm s)

/-- `lsh32 rD rS`: 32-bit logical shift left, SRC form (R175). -/
def execLsh32Src (dst : RegField) (src : RegField) (s : State) : Outcome :=
  settle s (shift32Src lsh32 dst src s)

/-- `rsh32 rD #imm`: 32-bit logical shift right, IMM form (R176). -/
def execRsh32Imm (dst : RegField) (imm : Imm) (s : State) : Outcome :=
  settle s (shift32Imm rsh32 dst imm s)

/-- `rsh32 rD rS`: 32-bit logical shift right, SRC form (R177). -/
def execRsh32Src (dst : RegField) (src : RegField) (s : State) : Outcome :=
  settle s (shift32Src rsh32 dst src s)

/-- `mod32 rD #imm`: 32-bit unsigned remainder, IMM form (R178). -/
def execMod32Imm (dst : RegField) (imm : Imm) (s : State) : Outcome :=
  settle s (alu32Imm mod32 dst imm s)

/-- `mod32 rD rS`: 32-bit unsigned remainder, SRC form (R179). -/
def execMod32Src (dst : RegField) (src : RegField) (s : State) : Outcome :=
  settle s (alu32Src mod32 dst src s)

/-- `xor32 rD #imm`: 32-bit bitwise exclusive or, IMM form (R180). -/
def execXor32Imm (dst : RegField) (imm : Imm) (s : State) : Outcome :=
  settle s (alu32Imm xor32 dst imm s)

/-- `xor32 rD rS`: 32-bit bitwise exclusive or, SRC form (R181). -/
def execXor32Src (dst : RegField) (src : RegField) (s : State) : Outcome :=
  settle s (alu32Src xor32 dst src s)

/-- `mov32 rD #imm`: 32-bit move, IMM form (R182). -/
def execMov32Imm (dst : RegField) (imm : Imm) (s : State) : Outcome :=
  settle s (alu32Imm mov32 dst imm s)

/-- `mov32 rD rS`: 32-bit move, SRC form (R183). -/
def execMov32Src (dst : RegField) (src : RegField) (s : State) : Outcome :=
  settle s (alu32Src mov32 dst src s)

/-- `arsh32 rD #imm`: 32-bit arithmetic shift right, IMM form (R184). -/
def execArsh32Imm (dst : RegField) (imm : Imm) (s : State) : Outcome :=
  settle s (shift32Imm arsh32 dst imm s)

/-- `arsh32 rD rS`: 32-bit arithmetic shift right, SRC form (R185). -/
def execArsh32Src (dst : RegField) (src : RegField) (s : State) : Outcome :=
  settle s (shift32Src arsh32 dst src s)

/-- `neg32 rD`: 32-bit negate (R186). -/
def execNeg32 (dst : RegField) (s : State) : Outcome :=
  settle s (unary32 neg32 dst s)

end Sys2Proof.Machine
end

