-- ==== Sys2Proof/Machine/Alu64.lean ====
section
/-! DEFINITION. The 64-bit ALU instructions (R130 to R157): the twelve two-operand operations in IMM and SRC forms,
and `neg`. -/

namespace Sys2Proof.Machine

/-- Sum modulo 2^64 (R132). -/
def add64 (a b : Word) : Except Cause Word := .ok (a + b)

/-- Difference `a - b` modulo 2^64 (R134). -/
def sub64 (a b : Word) : Except Cause Word := .ok (a - b)

/-- The low 64 bits of the product (R136). -/
def mul64 (a b : Word) : Except Cause Word := .ok (a * b)

/-- Unsigned quotient (`DIV_SIGNED` = false), `DivideByZero` on a zero divisor (R138, R268). -/
def div64 (a b : Word) : Except Cause Word := if b = 0 then .error .divideByZero else .ok (a / b)

/-- Unsigned remainder, `DivideByZero` on a zero divisor (R148, R268). -/
def mod64 (a b : Word) : Except Cause Word := if b = 0 then .error .divideByZero else .ok (a % b)

/-- Bitwise or (R140). -/
def or64 (a b : Word) : Except Cause Word := .ok (a ||| b)

/-- Bitwise and (R142). -/
def and64 (a b : Word) : Except Cause Word := .ok (a &&& b)

/-- Bitwise exclusive or (R150). -/
def xor64 (a b : Word) : Except Cause Word := .ok (a ^^^ b)

/-- The second operand (R152). -/
def mov64 (_a b : Word) : Except Cause Word := .ok b

/-- Logical shift left (R144). -/
def lsh64 (a : Word) (n : Nat) : Word := a <<< n

/-- Logical shift right (R146). -/
def rsh64 (a : Word) (n : Nat) : Word := a >>> n

/-- Arithmetic shift right, `asr_64` (R154, R6). -/
def arsh64 (a : Word) (n : Nat) : Word := a.sshiftRight n

/-- Two's-complement negation, `NEG_MODE` = twos (R156, D9). -/
def neg64 (a : Word) : Word := 0 - a

/-- `add rD #imm`: 64-bit add, IMM form (R132). -/
def execAddImm (dst : RegField) (imm : Imm) (s : State) : Outcome :=
  settle s (alu64Imm add64 dst imm s)

/-- `add rD rS`: 64-bit add, SRC form (R133). -/
def execAddSrc (dst : RegField) (src : RegField) (s : State) : Outcome :=
  settle s (alu64Src add64 dst src s)

/-- `sub rD #imm`: 64-bit subtract, IMM form (R134). -/
def execSubImm (dst : RegField) (imm : Imm) (s : State) : Outcome :=
  settle s (alu64Imm sub64 dst imm s)

/-- `sub rD rS`: 64-bit subtract, SRC form (R135). -/
def execSubSrc (dst : RegField) (src : RegField) (s : State) : Outcome :=
  settle s (alu64Src sub64 dst src s)

/-- `mul rD #imm`: 64-bit multiply, IMM form (R136). -/
def execMulImm (dst : RegField) (imm : Imm) (s : State) : Outcome :=
  settle s (alu64Imm mul64 dst imm s)

/-- `mul rD rS`: 64-bit multiply, SRC form (R137). -/
def execMulSrc (dst : RegField) (src : RegField) (s : State) : Outcome :=
  settle s (alu64Src mul64 dst src s)

/-- `div rD #imm`: 64-bit unsigned divide, IMM form (R138). -/
def execDivImm (dst : RegField) (imm : Imm) (s : State) : Outcome :=
  settle s (alu64Imm div64 dst imm s)

/-- `div rD rS`: 64-bit unsigned divide, SRC form (R139). -/
def execDivSrc (dst : RegField) (src : RegField) (s : State) : Outcome :=
  settle s (alu64Src div64 dst src s)

/-- `or rD #imm`: 64-bit bitwise or, IMM form (R140). -/
def execOrImm (dst : RegField) (imm : Imm) (s : State) : Outcome :=
  settle s (alu64Imm or64 dst imm s)

/-- `or rD rS`: 64-bit bitwise or, SRC form (R141). -/
def execOrSrc (dst : RegField) (src : RegField) (s : State) : Outcome :=
  settle s (alu64Src or64 dst src s)

/-- `and rD #imm`: 64-bit bitwise and, IMM form (R142). -/
def execAndImm (dst : RegField) (imm : Imm) (s : State) : Outcome :=
  settle s (alu64Imm and64 dst imm s)

/-- `and rD rS`: 64-bit bitwise and, SRC form (R143). -/
def execAndSrc (dst : RegField) (src : RegField) (s : State) : Outcome :=
  settle s (alu64Src and64 dst src s)

/-- `lsh rD #imm`: 64-bit logical shift left, IMM form (R144). -/
def execLshImm (dst : RegField) (imm : Imm) (s : State) : Outcome :=
  settle s (shift64Imm lsh64 dst imm s)

/-- `lsh rD rS`: 64-bit logical shift left, SRC form (R145). -/
def execLshSrc (dst : RegField) (src : RegField) (s : State) : Outcome :=
  settle s (shift64Src lsh64 dst src s)

/-- `rsh rD #imm`: 64-bit logical shift right, IMM form (R146). -/
def execRshImm (dst : RegField) (imm : Imm) (s : State) : Outcome :=
  settle s (shift64Imm rsh64 dst imm s)

/-- `rsh rD rS`: 64-bit logical shift right, SRC form (R147). -/
def execRshSrc (dst : RegField) (src : RegField) (s : State) : Outcome :=
  settle s (shift64Src rsh64 dst src s)

/-- `mod rD #imm`: 64-bit unsigned remainder, IMM form (R148). -/
def execModImm (dst : RegField) (imm : Imm) (s : State) : Outcome :=
  settle s (alu64Imm mod64 dst imm s)

/-- `mod rD rS`: 64-bit unsigned remainder, SRC form (R149). -/
def execModSrc (dst : RegField) (src : RegField) (s : State) : Outcome :=
  settle s (alu64Src mod64 dst src s)

/-- `xor rD #imm`: 64-bit bitwise exclusive or, IMM form (R150). -/
def execXorImm (dst : RegField) (imm : Imm) (s : State) : Outcome :=
  settle s (alu64Imm xor64 dst imm s)

/-- `xor rD rS`: 64-bit bitwise exclusive or, SRC form (R151). -/
def execXorSrc (dst : RegField) (src : RegField) (s : State) : Outcome :=
  settle s (alu64Src xor64 dst src s)

/-- `mov rD #imm`: 64-bit move, IMM form (R152). -/
def execMovImm (dst : RegField) (imm : Imm) (s : State) : Outcome :=
  settle s (alu64Imm mov64 dst imm s)

/-- `mov rD rS`: 64-bit move, SRC form (R153). -/
def execMovSrc (dst : RegField) (src : RegField) (s : State) : Outcome :=
  settle s (alu64Src mov64 dst src s)

/-- `arsh rD #imm`: 64-bit arithmetic shift right, IMM form (R154). -/
def execArshImm (dst : RegField) (imm : Imm) (s : State) : Outcome :=
  settle s (shift64Imm arsh64 dst imm s)

/-- `arsh rD rS`: 64-bit arithmetic shift right, SRC form (R155). -/
def execArshSrc (dst : RegField) (src : RegField) (s : State) : Outcome :=
  settle s (shift64Src arsh64 dst src s)

/-- `neg rD`: 64-bit negate (R156). -/
def execNeg (dst : RegField) (s : State) : Outcome :=
  settle s (unary64 neg64 dst s)

end Sys2Proof.Machine
end

