-- ==== Sys2Proof/Machine/ByteOrder.lean ====
section
/-! DEFINITION. The byte-order instructions (R190 to R198). `BYTE_ORDER` = little, so `le` truncates and `be` also
reverses bytes. -/

namespace Sys2Proof.Machine

/-- The low 16 bits kept, bits 63..16 cleared: host order is little-endian (R192). -/
def leConvert16 (v : Word) : Word := (v.extractLsb' 0 16).setWidth 64

/-- The low 32 bits kept, bits 63..32 cleared (R193). -/
def leConvert32 (v : Word) : Word := (v.extractLsb' 0 32).setWidth 64

/-- Every bit kept (R194). -/
def leConvert64 (v : Word) : Word := v

/-- The low 2 bytes reversed, bits 63..16 cleared (R195). -/
def beConvert16 (v : Word) : Word := (bswap16 (v.extractLsb' 0 16)).setWidth 64

/-- The low 4 bytes reversed, bits 63..32 cleared (R196). -/
def beConvert32 (v : Word) : Word := (bswap32 (v.extractLsb' 0 32)).setWidth 64

/-- The eight bytes reversed (R197). -/
def beConvert64 (v : Word) : Word := bswap64 v

/-- `le16 rD`: byte-order conversion, little-endian, 16 bits (R192). -/
def execLe16 (dst : RegField) (s : State) : Outcome :=
  settle s (unary64 leConvert16 dst s)

/-- `le32 rD`: byte-order conversion, little-endian, 32 bits (R193). -/
def execLe32 (dst : RegField) (s : State) : Outcome :=
  settle s (unary64 leConvert32 dst s)

/-- `le64 rD`: byte-order conversion, little-endian, 64 bits (R194). -/
def execLe64 (dst : RegField) (s : State) : Outcome :=
  settle s (unary64 leConvert64 dst s)

/-- `be16 rD`: byte-order conversion, big-endian, 16 bits (R195). -/
def execBe16 (dst : RegField) (s : State) : Outcome :=
  settle s (unary64 beConvert16 dst s)

/-- `be32 rD`: byte-order conversion, big-endian, 32 bits (R196). -/
def execBe32 (dst : RegField) (s : State) : Outcome :=
  settle s (unary64 beConvert32 dst s)

/-- `be64 rD`: byte-order conversion, big-endian, 64 bits (R197). -/
def execBe64 (dst : RegField) (s : State) : Outcome :=
  settle s (unary64 beConvert64 dst s)

end Sys2Proof.Machine
end

