-- ==== Sys2Proof/Machine/CallExit.lean ====
section
/-! DEFINITION. `call` and `exit` (R220 to R222). Neither uses a register field, so neither can fault. -/

namespace Sys2Proof.Machine

/-- `call #imm`: `pc <- zext_64(imm)`, an absolute slot; nothing is saved (R220). -/
def execCall (imm : Imm) (s : State) : Outcome :=
  settle s (.ok (s.goto imm.toNat))

/-- `exit`: `STATE <- Halted`; `FAULT` stays as it is and `pc` stays at the `exit` (R221). -/
def execExit (s : State) : Outcome :=
  settle s (.ok s.halt)

end Sys2Proof.Machine
end

