-- ==== Sys2Proof/Machine/Jump.lean ====
section
/-! DEFINITION. The jump instructions (R200 to R218). A jump changes `pc` and nothing else, and does not check its
target (R201). -/

namespace Sys2Proof.Machine

/-- `ja <label>`: always taken (R203). -/
def execJa (offset : Offset) (s : State) : Outcome :=
  settle s (.ok (s.branch true offset))

/-- `jeq rD #imm <label>`: jump if equal, IMM form (R204). -/
def execJeqImm (dst : RegField) (imm : Imm) (offset : Offset) (s : State) : Outcome :=
  settle s (jumpImm condEq dst imm offset s)

/-- `jeq rD rS <label>`: jump if equal, SRC form (R205). -/
def execJeqSrc (dst : RegField) (src : RegField) (offset : Offset) (s : State) : Outcome :=
  settle s (jumpSrc condEq dst src offset s)

/-- `jgt rD #imm <label>`: jump if unsigned greater than, IMM form (R206). -/
def execJgtImm (dst : RegField) (imm : Imm) (offset : Offset) (s : State) : Outcome :=
  settle s (jumpImm condGt dst imm offset s)

/-- `jgt rD rS <label>`: jump if unsigned greater than, SRC form (R207). -/
def execJgtSrc (dst : RegField) (src : RegField) (offset : Offset) (s : State) : Outcome :=
  settle s (jumpSrc condGt dst src offset s)

/-- `jge rD #imm <label>`: jump if unsigned greater than or equal, IMM form (R208). -/
def execJgeImm (dst : RegField) (imm : Imm) (offset : Offset) (s : State) : Outcome :=
  settle s (jumpImm condGe dst imm offset s)

/-- `jge rD rS <label>`: jump if unsigned greater than or equal, SRC form (R209). -/
def execJgeSrc (dst : RegField) (src : RegField) (offset : Offset) (s : State) : Outcome :=
  settle s (jumpSrc condGe dst src offset s)

/-- `jset rD #imm <label>`: jump if bit test, IMM form (R210). -/
def execJsetImm (dst : RegField) (imm : Imm) (offset : Offset) (s : State) : Outcome :=
  settle s (jumpImm condSet dst imm offset s)

/-- `jset rD rS <label>`: jump if bit test, SRC form (R211). -/
def execJsetSrc (dst : RegField) (src : RegField) (offset : Offset) (s : State) : Outcome :=
  settle s (jumpSrc condSet dst src offset s)

/-- `jne rD #imm <label>`: jump if not equal, IMM form (R212). -/
def execJneImm (dst : RegField) (imm : Imm) (offset : Offset) (s : State) : Outcome :=
  settle s (jumpImm condNe dst imm offset s)

/-- `jne rD rS <label>`: jump if not equal, SRC form (R213). -/
def execJneSrc (dst : RegField) (src : RegField) (offset : Offset) (s : State) : Outcome :=
  settle s (jumpSrc condNe dst src offset s)

/-- `jsgt rD #imm <label>`: jump if signed greater than, IMM form (R214). -/
def execJsgtImm (dst : RegField) (imm : Imm) (offset : Offset) (s : State) : Outcome :=
  settle s (jumpImm condSgt dst imm offset s)

/-- `jsgt rD rS <label>`: jump if signed greater than, SRC form (R215). -/
def execJsgtSrc (dst : RegField) (src : RegField) (offset : Offset) (s : State) : Outcome :=
  settle s (jumpSrc condSgt dst src offset s)

/-- `jsge rD #imm <label>`: jump if signed greater than or equal, IMM form (R216). -/
def execJsgeImm (dst : RegField) (imm : Imm) (offset : Offset) (s : State) : Outcome :=
  settle s (jumpImm condSge dst imm offset s)

/-- `jsge rD rS <label>`: jump if signed greater than or equal, SRC form (R217). -/
def execJsgeSrc (dst : RegField) (src : RegField) (offset : Offset) (s : State) : Outcome :=
  settle s (jumpSrc condSge dst src offset s)

end Sys2Proof.Machine
end

