-- ==== Sys2Proof/Machine/LoadImmediate.lean ====
section
/-! DEFINITION. `lddw` (R225, R226): one slot, a 32-bit value, zero-extended. -/

namespace Sys2Proof.Machine

/-- `LDDW`: `x[dst] <- zext_64(imm)`, `pc <- pc + 1` (R225). -/
def loadImmediate (dst : RegField) (imm : Imm) (s : State) : Except Cause State := do
  let d ← writesDst dst
  return (s.write64 d (zext64 imm)).advance

/-- `lddw rD #imm`: load immediate (R225). -/
def execLddw (dst : RegField) (imm : Imm) (s : State) : Outcome :=
  settle s (loadImmediate dst imm s)

end Sys2Proof.Machine
end

