-- ==== Sys2Proof/Machine/LoadStore.lean ====
section
/-! DEFINITION. The scratch-memory loads and stores (R230 to R244). The stored value is given to `storeImm` as 64
bits, of which the low bytes of the width are written (R58). -/

namespace Sys2Proof.Machine

/-- `ldxw rD [rS + #off]`: load word (4 bytes), zero-extended (R232). -/
def execLdxw (dst : RegField) (src : RegField) (offset : Offset) (s : State) : Outcome :=
  settle s (loadReg .word dst src offset s)

/-- `ldxh rD [rS + #off]`: load halfword (2 bytes), zero-extended (R233). -/
def execLdxh (dst : RegField) (src : RegField) (offset : Offset) (s : State) : Outcome :=
  settle s (loadReg .half dst src offset s)

/-- `ldxb rD [rS + #off]`: load byte, zero-extended (R234). -/
def execLdxb (dst : RegField) (src : RegField) (offset : Offset) (s : State) : Outcome :=
  settle s (loadReg .byte dst src offset s)

/-- `ldxdw rD [rS + #off]`: load doubleword (8 bytes), zero-extended (R235). -/
def execLdxdw (dst : RegField) (src : RegField) (offset : Offset) (s : State) : Outcome :=
  settle s (loadReg .dword dst src offset s)

/-- `stw [rD + #off] #imm`: store word (4 bytes), all of `imm` (R236). -/
def execStw (dst : RegField) (offset : Offset) (imm : Imm) (s : State) : Outcome :=
  settle s (storeImm .word (zext64 imm) dst offset s)

/-- `sth [rD + #off] #imm`: store halfword (2 bytes), `imm[15:0]` (R237). -/
def execSth (dst : RegField) (offset : Offset) (imm : Imm) (s : State) : Outcome :=
  settle s (storeImm .half (zext64 imm) dst offset s)

/-- `stb [rD + #off] #imm`: store byte, `imm[7:0]` (R238). -/
def execStb (dst : RegField) (offset : Offset) (imm : Imm) (s : State) : Outcome :=
  settle s (storeImm .byte (zext64 imm) dst offset s)

/-- `stdw [rD + #off] #imm`: store doubleword (8 bytes), `ext64(imm)` (R239). -/
def execStdw (dst : RegField) (offset : Offset) (imm : Imm) (s : State) : Outcome :=
  settle s (storeImm .dword (ext64 imm) dst offset s)

/-- `stxw [rD + #off] rS`: store word (4 bytes) of `x[src]` (R240). -/
def execStxw (dst : RegField) (src : RegField) (offset : Offset) (s : State) : Outcome :=
  settle s (storeReg .word dst src offset s)

/-- `stxh [rD + #off] rS`: store halfword (2 bytes) of `x[src]` (R241). -/
def execStxh (dst : RegField) (src : RegField) (offset : Offset) (s : State) : Outcome :=
  settle s (storeReg .half dst src offset s)

/-- `stxb [rD + #off] rS`: store byte of `x[src]` (R242). -/
def execStxb (dst : RegField) (src : RegField) (offset : Offset) (s : State) : Outcome :=
  settle s (storeReg .byte dst src offset s)

/-- `stxdw [rD + #off] rS`: store doubleword (8 bytes) of `x[src]` (R243). -/
def execStxdw (dst : RegField) (src : RegField) (offset : Offset) (s : State) : Outcome :=
  settle s (storeReg .dword dst src offset s)

end Sys2Proof.Machine
end

