-- ==== Sys2Proof/Machine/Packet.lean ====
section
/-! DEFINITION. The packet loads (R250 to R258): decoded, reported, not executed. No field is examined, so none can
fault. -/

namespace Sys2Proof.Machine

/-- What every packet load does: report, and go on (R250). -/
def packetLoad (s : State) : Except Cause State := .ok s.reportUnsupported.advance

/-- `ldabsw rD [rS + #off]`: absolute packet load of 4 bytes; unsupported (R251). -/
def execLdabsw (s : State) : Outcome :=
  settle s (packetLoad s)

/-- `ldabsh rD [rS + #off]`: absolute packet load of 2 bytes; unsupported (R252). -/
def execLdabsh (s : State) : Outcome :=
  settle s (packetLoad s)

/-- `ldabsb rD [rS + #off]`: absolute packet load of 1 byte; unsupported (R253). -/
def execLdabsb (s : State) : Outcome :=
  settle s (packetLoad s)

/-- `ldabsdw rD [rS + #off]`: absolute packet load of 8 bytes; unsupported (R254). -/
def execLdabsdw (s : State) : Outcome :=
  settle s (packetLoad s)

/-- `ldindw rD [rS + #off]`: indexed packet load of 4 bytes; unsupported (R255). -/
def execLdindw (s : State) : Outcome :=
  settle s (packetLoad s)

/-- `ldindh rD [rS + #off]`: indexed packet load of 2 bytes; unsupported (R256). -/
def execLdindh (s : State) : Outcome :=
  settle s (packetLoad s)

/-- `ldindb rD [rS + #off]`: indexed packet load of 1 byte; unsupported (R257). -/
def execLdindb (s : State) : Outcome :=
  settle s (packetLoad s)

/-- `ldinddw rD [rS + #off]`: indexed packet load of 8 bytes; unsupported (R258). -/
def execLdinddw (s : State) : Outcome :=
  settle s (packetLoad s)

end Sys2Proof.Machine
end

