-- ==== Sys2Proof/Machine/Dispatch.lean ====
section
/-! DEFINITION. One arm per instruction, each one direct call of its meaning. -/

namespace Sys2Proof.Machine

def exec (i : Instr) (s : State) : Host.Outcome State Fault Refusal :=
  match i with
  | .addImm dst imm => Sys2Proof.Machine.execAddImm dst imm s
  | .addSrc dst src => Sys2Proof.Machine.execAddSrc dst src s
  | .subImm dst imm => Sys2Proof.Machine.execSubImm dst imm s
  | .subSrc dst src => Sys2Proof.Machine.execSubSrc dst src s
  | .mulImm dst imm => Sys2Proof.Machine.execMulImm dst imm s
  | .mulSrc dst src => Sys2Proof.Machine.execMulSrc dst src s
  | .divImm dst imm => Sys2Proof.Machine.execDivImm dst imm s
  | .divSrc dst src => Sys2Proof.Machine.execDivSrc dst src s
  | .orImm dst imm => Sys2Proof.Machine.execOrImm dst imm s
  | .orSrc dst src => Sys2Proof.Machine.execOrSrc dst src s
  | .andImm dst imm => Sys2Proof.Machine.execAndImm dst imm s
  | .andSrc dst src => Sys2Proof.Machine.execAndSrc dst src s
  | .lshImm dst imm => Sys2Proof.Machine.execLshImm dst imm s
  | .lshSrc dst src => Sys2Proof.Machine.execLshSrc dst src s
  | .rshImm dst imm => Sys2Proof.Machine.execRshImm dst imm s
  | .rshSrc dst src => Sys2Proof.Machine.execRshSrc dst src s
  | .modImm dst imm => Sys2Proof.Machine.execModImm dst imm s
  | .modSrc dst src => Sys2Proof.Machine.execModSrc dst src s
  | .xorImm dst imm => Sys2Proof.Machine.execXorImm dst imm s
  | .xorSrc dst src => Sys2Proof.Machine.execXorSrc dst src s
  | .movImm dst imm => Sys2Proof.Machine.execMovImm dst imm s
  | .movSrc dst src => Sys2Proof.Machine.execMovSrc dst src s
  | .arshImm dst imm => Sys2Proof.Machine.execArshImm dst imm s
  | .arshSrc dst src => Sys2Proof.Machine.execArshSrc dst src s
  | .neg dst => Sys2Proof.Machine.execNeg dst s
  | .add32Imm dst imm => Sys2Proof.Machine.execAdd32Imm dst imm s
  | .add32Src dst src => Sys2Proof.Machine.execAdd32Src dst src s
  | .sub32Imm dst imm => Sys2Proof.Machine.execSub32Imm dst imm s
  | .sub32Src dst src => Sys2Proof.Machine.execSub32Src dst src s
  | .mul32Imm dst imm => Sys2Proof.Machine.execMul32Imm dst imm s
  | .mul32Src dst src => Sys2Proof.Machine.execMul32Src dst src s
  | .div32Imm dst imm => Sys2Proof.Machine.execDiv32Imm dst imm s
  | .div32Src dst src => Sys2Proof.Machine.execDiv32Src dst src s
  | .or32Imm dst imm => Sys2Proof.Machine.execOr32Imm dst imm s
  | .or32Src dst src => Sys2Proof.Machine.execOr32Src dst src s
  | .and32Imm dst imm => Sys2Proof.Machine.execAnd32Imm dst imm s
  | .and32Src dst src => Sys2Proof.Machine.execAnd32Src dst src s
  | .lsh32Imm dst imm => Sys2Proof.Machine.execLsh32Imm dst imm s
  | .lsh32Src dst src => Sys2Proof.Machine.execLsh32Src dst src s
  | .rsh32Imm dst imm => Sys2Proof.Machine.execRsh32Imm dst imm s
  | .rsh32Src dst src => Sys2Proof.Machine.execRsh32Src dst src s
  | .mod32Imm dst imm => Sys2Proof.Machine.execMod32Imm dst imm s
  | .mod32Src dst src => Sys2Proof.Machine.execMod32Src dst src s
  | .xor32Imm dst imm => Sys2Proof.Machine.execXor32Imm dst imm s
  | .xor32Src dst src => Sys2Proof.Machine.execXor32Src dst src s
  | .mov32Imm dst imm => Sys2Proof.Machine.execMov32Imm dst imm s
  | .mov32Src dst src => Sys2Proof.Machine.execMov32Src dst src s
  | .arsh32Imm dst imm => Sys2Proof.Machine.execArsh32Imm dst imm s
  | .arsh32Src dst src => Sys2Proof.Machine.execArsh32Src dst src s
  | .neg32 dst => Sys2Proof.Machine.execNeg32 dst s
  | .le16 dst => Sys2Proof.Machine.execLe16 dst s
  | .le32 dst => Sys2Proof.Machine.execLe32 dst s
  | .le64 dst => Sys2Proof.Machine.execLe64 dst s
  | .be16 dst => Sys2Proof.Machine.execBe16 dst s
  | .be32 dst => Sys2Proof.Machine.execBe32 dst s
  | .be64 dst => Sys2Proof.Machine.execBe64 dst s
  | .ja offset => Sys2Proof.Machine.execJa offset s
  | .jeqImm dst imm offset => Sys2Proof.Machine.execJeqImm dst imm offset s
  | .jeqSrc dst src offset => Sys2Proof.Machine.execJeqSrc dst src offset s
  | .jgtImm dst imm offset => Sys2Proof.Machine.execJgtImm dst imm offset s
  | .jgtSrc dst src offset => Sys2Proof.Machine.execJgtSrc dst src offset s
  | .jgeImm dst imm offset => Sys2Proof.Machine.execJgeImm dst imm offset s
  | .jgeSrc dst src offset => Sys2Proof.Machine.execJgeSrc dst src offset s
  | .jsetImm dst imm offset => Sys2Proof.Machine.execJsetImm dst imm offset s
  | .jsetSrc dst src offset => Sys2Proof.Machine.execJsetSrc dst src offset s
  | .jneImm dst imm offset => Sys2Proof.Machine.execJneImm dst imm offset s
  | .jneSrc dst src offset => Sys2Proof.Machine.execJneSrc dst src offset s
  | .jsgtImm dst imm offset => Sys2Proof.Machine.execJsgtImm dst imm offset s
  | .jsgtSrc dst src offset => Sys2Proof.Machine.execJsgtSrc dst src offset s
  | .jsgeImm dst imm offset => Sys2Proof.Machine.execJsgeImm dst imm offset s
  | .jsgeSrc dst src offset => Sys2Proof.Machine.execJsgeSrc dst src offset s
  | .call imm => Sys2Proof.Machine.execCall imm s
  | .exit => Sys2Proof.Machine.execExit s
  | .lddw dst imm => Sys2Proof.Machine.execLddw dst imm s
  | .ldxw dst src offset => Sys2Proof.Machine.execLdxw dst src offset s
  | .ldxh dst src offset => Sys2Proof.Machine.execLdxh dst src offset s
  | .ldxb dst src offset => Sys2Proof.Machine.execLdxb dst src offset s
  | .ldxdw dst src offset => Sys2Proof.Machine.execLdxdw dst src offset s
  | .stw dst offset imm => Sys2Proof.Machine.execStw dst offset imm s
  | .sth dst offset imm => Sys2Proof.Machine.execSth dst offset imm s
  | .stb dst offset imm => Sys2Proof.Machine.execStb dst offset imm s
  | .stdw dst offset imm => Sys2Proof.Machine.execStdw dst offset imm s
  | .stxw dst src offset => Sys2Proof.Machine.execStxw dst src offset s
  | .stxh dst src offset => Sys2Proof.Machine.execStxh dst src offset s
  | .stxb dst src offset => Sys2Proof.Machine.execStxb dst src offset s
  | .stxdw dst src offset => Sys2Proof.Machine.execStxdw dst src offset s
  | .ldabsw => Sys2Proof.Machine.execLdabsw s
  | .ldabsh => Sys2Proof.Machine.execLdabsh s
  | .ldabsb => Sys2Proof.Machine.execLdabsb s
  | .ldabsdw => Sys2Proof.Machine.execLdabsdw s
  | .ldindw => Sys2Proof.Machine.execLdindw s
  | .ldindh => Sys2Proof.Machine.execLdindh s
  | .ldindb => Sys2Proof.Machine.execLdindb s
  | .ldinddw => Sys2Proof.Machine.execLdinddw s

end Sys2Proof.Machine
end

