-- ==== Sys2Proof/Machine/Step.lean ====
section
/-! DEFINITION. The step (R262), and placing an instruction where the next step fetches it. -/

namespace Sys2Proof.Machine

/-- One step (R262), taken only while `STATE` is Running (R40): fetch, decode, execute. A fetch outside the program and
a word that is no instruction are faults the machine takes (R264, R265, R270). -/
def step (s : State) : Host.Outcome State Fault Refusal :=
  match s.control with
  | .ready => .fault .notReadyToStep
  | .halted => .fault .alreadyHalted
  | .running =>
    match fetch s with
    | .error c => .next (takeFault c s)
    | .ok w =>
      match decode w with
      | .error _ => .next (takeFault .illegalInstruction s)
      | .ok i => exec i s

/-- The slot `step` fetches from next, or slot 0 where `pc` is no slot that a program can have (R27, R297). -/
def State.fetchSlot (s : State) : Nat :=
  if 0 ≤ s.pc ∧ s.pc < Config.progLenMax then s.pc.toNat else 0

/-- `s` Running, with the instruction whose bits are `w` in the slot that the next step fetches: what the host's `run`
of a program with that word there leaves (R297; log entry 1). -/
def State.withFetchWord (s : State) (nbits w : Nat) : State :=
  let slot := s.fetchSlot
  { s with
    control := .running
    pc := slot
    program := s.program.take slot ++ List.replicate (slot - s.program.length) 0 ++
      BitVec.ofNat 64 (w % 2 ^ nbits) :: s.program.drop (slot + 1) }

end Sys2Proof.Machine
end

