-- ==== Sys2Proof/Machine/Assembler.lean ====
section
/-! DEFINITION. The assembler of R97 to R120: a pure function from source text to the words of a program, or one
AssemblyError. It is software around the block (R2) and no step of the machine (R278). Text is a list of characters.
The choices that the spec leaves open are log entries 10 to 13. -/

namespace Sys2Proof.Machine

/-- A token of a source line (R97). -/
abbrev Token := List Char

/-! ## Lines and tokens -/

/-- The pieces of a text between the characters that `sep` marks. -/
def splitText (sep : Char → Bool) : List Char → List (List Char)
  | [] => [[]]
  | c :: cs =>
    match splitText sep cs with
    | [] => [[c]]
    | piece :: pieces => if sep c then [] :: piece :: pieces else (c :: piece) :: pieces

/-- A line's tokens: split at runs of spaces and tabs (R97). -/
def tokens (line : List Char) : List Token :=
  (splitText (fun c => c == ' ' || c == '\t') line).filter fun t => !t.isEmpty

/-- The tokens of every line, each line with its number, from 1 (R97; log entry 13 for the line end). -/
def sourceLines (src : List Char) : List (Nat × List Token) :=
  ((splitText (· == '\n') src).map tokens).zipIdx 1 |>.map fun p => (p.2, p.1)

/-! ## Errors -/

/-- Why assembly failed (R116). -/
inductive AssemblyReason where
  | unknownMnemonic | missingOperand | surplusOperand | badRegister | badLiteral | literalOutOfRange | badMemoryOperand
  | emptyLabel | duplicateLabel | unresolvedLabel | displacementOutOfRange
  deriving DecidableEq, Repr

/-- AssemblyError: the line, the token that failed, and why (R116, R117). -/
structure AssemblyError where
  line : Nat
  token : Token
  reason : AssemblyReason
  deriving DecidableEq, Repr

/-! ## Operands -/

/-- The digit `0`..`9` a character is. -/
def decimalDigit (c : Char) : Option Nat :=
  if '0' ≤ c ∧ c ≤ '9' then some (c.toNat - '0'.toNat) else none

/-- The hexadecimal digit a character is, in either case (R99). -/
def hexDigit (c : Char) : Option Nat :=
  if '0' ≤ c ∧ c ≤ '9' then some (c.toNat - '0'.toNat)
  else if 'a' ≤ c ∧ c ≤ 'f' then some (c.toNat - 'a'.toNat + 10)
  else if 'A' ≤ c ∧ c ≤ 'F' then some (c.toNat - 'A'.toNat + 10)
  else none

/-- The number that one or more hexadecimal digits denote, unsigned (R99). -/
def hexNumber (digits : List Char) : Option Nat :=
  if digits.isEmpty then none
  else digits.foldlM (fun n c => (hexDigit c).map (16 * n + ·)) 0

/-- `r0`..`r10`, no leading zero (R98). -/
def parseRegister : Token → Option Nat
  | ['r', d] => decimalDigit d
  | ['r', '1', '0'] => some 10
  | _ => none

/-- `#` and a hexadecimal literal with an optional `0x` or `0X` (R99). -/
def parseLiteral : Token → Option Nat
  | '#' :: '0' :: 'x' :: digits => hexNumber digits
  | '#' :: '0' :: 'X' :: digits => hexNumber digits
  | '#' :: digits => hexNumber digits
  | _ => none

/-- A register operand on line `line` (R98). -/
def registerOperand (line : Nat) (t : Token) : Except AssemblyError RegField :=
  match parseRegister t with
  | some n => .ok (BitVec.ofNat 4 n)
  | none => .error ⟨line, t, .badRegister⟩

/-- A literal of at most `max`, never truncated (R99). -/
def literalOperand (line max : Nat) (t : Token) : Except AssemblyError Nat :=
  match parseLiteral t with
  | some n => if n ≤ max then .ok n else .error ⟨line, t, .literalOutOfRange⟩
  | none => .error ⟨line, t, .badLiteral⟩

/-- An `imm` operand, at most `0xffffffff` (R99). -/
def immOperand (line : Nat) (t : Token) : Except AssemblyError Imm :=
  (literalOperand line 0xffffffff t).map (BitVec.ofNat 32)

/-- The first token of a memory operand, `[rN` (R100). A bad register is reported without the bracket; a token that is no
bracket with something after it is the offending token as it stands (R116, log entry 11). -/
def bracketedRegister (line : Nat) (t : Token) : Except AssemblyError RegField :=
  match t with
  | '[' :: c :: reg => registerOperand line (c :: reg)
  | _ => .error ⟨line, t, .badMemoryOperand⟩

/-- The last token of a memory operand, `#offset]` (R100), the displacement at most `0xffff` (R99). A bad literal is
reported without the bracket; a token that is no bracket with something before it is the offending token as it stands
(R116, log entry 11). -/
def bracketedLiteral (line : Nat) (t : Token) : Except AssemblyError Offset :=
  match t.reverse with
  | ']' :: c :: lit => (literalOperand line 0xffff (c :: lit).reverse).map (BitVec.ofNat 16)
  | _ => .error ⟨line, t, .badMemoryOperand⟩

/-- A memory operand's three tokens `[rN`, `+`, `#offset]` (R100), from left to right (log entry 10). -/
def memoryOperand (line : Nat) (opening plus closing : Token) : Except AssemblyError (RegField × Offset) := do
  let base ← bracketedRegister line opening
  if plus ≠ ['+'] then .error ⟨line, plus, .badMemoryOperand⟩
  else
    let off ← bracketedLiteral line closing
    return (base, off)

/-! ## Mnemonics -/

/-- The operand shapes of R103 to R114, each with the opcode bytes it may emit. -/
inductive Shape where
  /-- `<mn> rD rS` or `<mn> rD #imm` (R103). -/
  | alu (imm src : BitVec 8)
  /-- `<mn> rD` (R104). -/
  | unary (op : BitVec 8)
  /-- `<mn> rD`, the width in `imm` (R105). -/
  | endian (op : BitVec 8) (width : Imm)
  /-- `ja <label>` (R106). -/
  | ja (op : BitVec 8)
  /-- `<mn> rD rS <label>` or `<mn> rD #imm <label>` (R107). -/
  | branch (imm src : BitVec 8)
  /-- `call #imm` (R108). -/
  | call (op : BitVec 8)
  /-- `exit` (R109). -/
  | exit (op : BitVec 8)
  /-- `lddw rD #imm` (R110). -/
  | lddw (op : BitVec 8)
  /-- `<mn> rD [rS + #off]`: ldx and the packet loads (R111, R114). -/
  | load (op : BitVec 8)
  /-- `<mn> [rD + #off] #imm` (R112). -/
  | storeImm (op : BitVec 8)
  /-- `<mn> [rD + #off] rS` (R113). -/
  | storeReg (op : BitVec 8)
  deriving DecidableEq, Repr

/-- How many tokens follow the mnemonic (R103 to R114; a memory operand is three). -/
def Shape.operandCount : Shape → Nat
  | .exit _ => 0
  | .unary _ | .endian _ _ | .ja _ | .call _ => 1
  | .alu _ _ | .lddw _ => 2
  | .branch _ _ => 3
  | .load _ | .storeImm _ | .storeReg _ => 4

/-- Shape 1, 64 bits (R103). -/
def alu64Mnemonics : List (String × Shape) :=
  [("add", .alu (Instr.addImm 0 0).opcode (Instr.addSrc 0 0).opcode),
   ("sub", .alu (Instr.subImm 0 0).opcode (Instr.subSrc 0 0).opcode),
   ("mul", .alu (Instr.mulImm 0 0).opcode (Instr.mulSrc 0 0).opcode),
   ("div", .alu (Instr.divImm 0 0).opcode (Instr.divSrc 0 0).opcode),
   ("or", .alu (Instr.orImm 0 0).opcode (Instr.orSrc 0 0).opcode),
   ("and", .alu (Instr.andImm 0 0).opcode (Instr.andSrc 0 0).opcode),
   ("lsh", .alu (Instr.lshImm 0 0).opcode (Instr.lshSrc 0 0).opcode),
   ("rsh", .alu (Instr.rshImm 0 0).opcode (Instr.rshSrc 0 0).opcode),
   ("mod", .alu (Instr.modImm 0 0).opcode (Instr.modSrc 0 0).opcode),
   ("xor", .alu (Instr.xorImm 0 0).opcode (Instr.xorSrc 0 0).opcode),
   ("mov", .alu (Instr.movImm 0 0).opcode (Instr.movSrc 0 0).opcode),
   ("arsh", .alu (Instr.arshImm 0 0).opcode (Instr.arshSrc 0 0).opcode)]

/-- Shape 1, 32 bits (R103). -/
def alu32Mnemonics : List (String × Shape) :=
  [("add32", .alu (Instr.add32Imm 0 0).opcode (Instr.add32Src 0 0).opcode),
   ("sub32", .alu (Instr.sub32Imm 0 0).opcode (Instr.sub32Src 0 0).opcode),
   ("mul32", .alu (Instr.mul32Imm 0 0).opcode (Instr.mul32Src 0 0).opcode),
   ("div32", .alu (Instr.div32Imm 0 0).opcode (Instr.div32Src 0 0).opcode),
   ("or32", .alu (Instr.or32Imm 0 0).opcode (Instr.or32Src 0 0).opcode),
   ("and32", .alu (Instr.and32Imm 0 0).opcode (Instr.and32Src 0 0).opcode),
   ("lsh32", .alu (Instr.lsh32Imm 0 0).opcode (Instr.lsh32Src 0 0).opcode),
   ("rsh32", .alu (Instr.rsh32Imm 0 0).opcode (Instr.rsh32Src 0 0).opcode),
   ("mod32", .alu (Instr.mod32Imm 0 0).opcode (Instr.mod32Src 0 0).opcode),
   ("xor32", .alu (Instr.xor32Imm 0 0).opcode (Instr.xor32Src 0 0).opcode),
   ("mov32", .alu (Instr.mov32Imm 0 0).opcode (Instr.mov32Src 0 0).opcode),
   ("arsh32", .alu (Instr.arsh32Imm 0 0).opcode (Instr.arsh32Src 0 0).opcode)]

/-- Unary (R104). -/
def unaryMnemonics : List (String × Shape) :=
  [("neg", .unary (Instr.neg 0).opcode),
   ("neg32", .unary (Instr.neg32 0).opcode)]

/-- Shape 2 (R105). -/
def endianMnemonics : List (String × Shape) :=
  [("le16", .endian (Instr.le16 0).opcode 16),
   ("le32", .endian (Instr.le32 0).opcode 32),
   ("le64", .endian (Instr.le64 0).opcode 64),
   ("be16", .endian (Instr.be16 0).opcode 16),
   ("be32", .endian (Instr.be32 0).opcode 32),
   ("be64", .endian (Instr.be64 0).opcode 64)]

/-- Shape 3 (R106). -/
def jaMnemonics : List (String × Shape) :=
  [("ja", .ja (Instr.ja 0).opcode)]

/-- Shape 4 (R107). -/
def branchMnemonics : List (String × Shape) :=
  [("jeq", .branch (Instr.jeqImm 0 0 0).opcode (Instr.jeqSrc 0 0 0).opcode),
   ("jgt", .branch (Instr.jgtImm 0 0 0).opcode (Instr.jgtSrc 0 0 0).opcode),
   ("jge", .branch (Instr.jgeImm 0 0 0).opcode (Instr.jgeSrc 0 0 0).opcode),
   ("jset", .branch (Instr.jsetImm 0 0 0).opcode (Instr.jsetSrc 0 0 0).opcode),
   ("jne", .branch (Instr.jneImm 0 0 0).opcode (Instr.jneSrc 0 0 0).opcode),
   ("jsgt", .branch (Instr.jsgtImm 0 0 0).opcode (Instr.jsgtSrc 0 0 0).opcode),
   ("jsge", .branch (Instr.jsgeImm 0 0 0).opcode (Instr.jsgeSrc 0 0 0).opcode)]

/-- Shape 5 (R108). -/
def callMnemonics : List (String × Shape) :=
  [("call", .call (Instr.call 0).opcode)]

/-- Shape 6 (R109). -/
def exitMnemonics : List (String × Shape) :=
  [("exit", .exit Instr.exit.opcode)]

/-- Shape 7 (R110). -/
def lddwMnemonics : List (String × Shape) :=
  [("lddw", .lddw (Instr.lddw 0 0).opcode)]

/-- Shape 8, loads (R111). -/
def loadMnemonics : List (String × Shape) :=
  [("ldxw", .load (Instr.ldxw 0 0 0).opcode),
   ("ldxh", .load (Instr.ldxh 0 0 0).opcode),
   ("ldxb", .load (Instr.ldxb 0 0 0).opcode),
   ("ldxdw", .load (Instr.ldxdw 0 0 0).opcode)]

/-- Shape 8, store immediate (R112). -/
def storeImmMnemonics : List (String × Shape) :=
  [("stw", .storeImm (Instr.stw 0 0 0).opcode),
   ("sth", .storeImm (Instr.sth 0 0 0).opcode),
   ("stb", .storeImm (Instr.stb 0 0 0).opcode),
   ("stdw", .storeImm (Instr.stdw 0 0 0).opcode)]

/-- Shape 8, store register (R113). -/
def storeRegMnemonics : List (String × Shape) :=
  [("stxw", .storeReg (Instr.stxw 0 0 0).opcode),
   ("stxh", .storeReg (Instr.stxh 0 0 0).opcode),
   ("stxb", .storeReg (Instr.stxb 0 0 0).opcode),
   ("stxdw", .storeReg (Instr.stxdw 0 0 0).opcode)]

/-- Shape 8, packet loads (R114). -/
def packetMnemonics : List (String × Shape) :=
  [("ldabsw", .load Instr.ldabsw.opcode),
   ("ldabsh", .load Instr.ldabsh.opcode),
   ("ldabsb", .load Instr.ldabsb.opcode),
   ("ldabsdw", .load Instr.ldabsdw.opcode),
   ("ldindw", .load Instr.ldindw.opcode),
   ("ldindh", .load Instr.ldindh.opcode),
   ("ldindb", .load Instr.ldindb.opcode),
   ("ldinddw", .load Instr.ldinddw.opcode)]

/-- The mnemonics and their shapes; the opcode bytes are those of `OPCODE_MAP` (R89). -/
def mnemonicTable : List (String × Shape) :=
  [alu64Mnemonics, alu32Mnemonics, unaryMnemonics, endianMnemonics, jaMnemonics, branchMnemonics, callMnemonics,
   exitMnemonics, lddwMnemonics, loadMnemonics, storeImmMnemonics, storeRegMnemonics, packetMnemonics].flatten

/-- The shape of a mnemonic, matched exactly (R97, R117). -/
def mnemonicShape (t : Token) : Option Shape :=
  (mnemonicTable.find? fun entry => entry.1.toList == t).map Prod.snd

/-! ## One instruction line -/

/-- A parsed instruction line: complete fields, or fields whose displacement waits for a label (R106, R107). -/
inductive Parsed where
  | complete (f : Fields)
  | toLabel (f : Fields) (label : Token)
  deriving DecidableEq, Repr

/-- A register-or-immediate operand: `#` selects the IMM form's opcode, anything else must be a register and selects the
SRC form's (R103, R107). The result is opcode, `src` and `imm`. -/
def secondOperand (line : Nat) (immOp srcOp : BitVec 8) (t : Token) :
    Except AssemblyError (BitVec 8 × RegField × Imm) :=
  match t with
  | '#' :: _ => (immOperand line t).map fun v => (immOp, 0, v)
  | _ => (registerOperand line t).map fun r => (srcOp, r, 0)

/-- The error of a line with the wrong number of operands: the first surplus token, or the mnemonic when one is missing
(R116). -/
def wrongCount (line : Nat) (mnemonic : Token) (shape : Shape) (operands : List Token) : AssemblyError :=
  match operands[shape.operandCount]? with
  | some surplus => ⟨line, surplus, .surplusOperand⟩
  | none => ⟨line, mnemonic, .missingOperand⟩

/-- The operands of a line whose mnemonic has the given shape: their number first (log entry 10), then each from left to
right (R103 to R114). -/
def parseOperands (line : Nat) (mnemonic : Token) (shape : Shape) (operands : List Token) :
    Except AssemblyError Parsed :=
  match shape with
  | .alu immOp srcOp =>
    match operands with
    | [a, b] => do
      let dst ← registerOperand line a
      let (op, src, imm) ← secondOperand line immOp srcOp b
      return .complete ⟨op, dst, src, 0, imm⟩
    | _ => .error (wrongCount line mnemonic shape operands)
  | .unary op =>
    match operands with
    | [a] => do
      let dst ← registerOperand line a
      return .complete ⟨op, dst, 0, 0, 0⟩
    | _ => .error (wrongCount line mnemonic shape operands)
  | .endian op width =>
    match operands with
    | [a] => do
      let dst ← registerOperand line a
      return .complete ⟨op, dst, 0, 0, width⟩
    | _ => .error (wrongCount line mnemonic shape operands)
  | .ja op =>
    match operands with
    | [label] => .ok (.toLabel ⟨op, 0, 0, 0, 0⟩ label)
    | _ => .error (wrongCount line mnemonic shape operands)
  | .branch immOp srcOp =>
    match operands with
    | [a, b, label] => do
      let dst ← registerOperand line a
      let (op, src, imm) ← secondOperand line immOp srcOp b
      return .toLabel ⟨op, dst, src, 0, imm⟩ label
    | _ => .error (wrongCount line mnemonic shape operands)
  | .call op =>
    match operands with
    | [a] => do
      let imm ← immOperand line a
      return .complete ⟨op, 0, 0, 0, imm⟩
    | _ => .error (wrongCount line mnemonic shape operands)
  | .exit op =>
    match operands with
    | [] => .ok (.complete ⟨op, 0, 0, 0, 0⟩)
    | _ => .error (wrongCount line mnemonic shape operands)
  | .lddw op =>
    match operands with
    | [a, b] => do
      let dst ← registerOperand line a
      let imm ← immOperand line b
      return .complete ⟨op, dst, 0, 0, imm⟩
    | _ => .error (wrongCount line mnemonic shape operands)
  | .load op =>
    match operands with
    | [a, m1, m2, m3] => do
      let dst ← registerOperand line a
      let (src, off) ← memoryOperand line m1 m2 m3
      return .complete ⟨op, dst, src, off, 0⟩
    | _ => .error (wrongCount line mnemonic shape operands)
  | .storeImm op =>
    match operands with
    | [m1, m2, m3, b] => do
      let (dst, off) ← memoryOperand line m1 m2 m3
      let imm ← immOperand line b
      return .complete ⟨op, dst, 0, off, imm⟩
    | _ => .error (wrongCount line mnemonic shape operands)
  | .storeReg op =>
    match operands with
    | [m1, m2, m3, b] => do
      let (dst, off) ← memoryOperand line m1 m2 m3
      let src ← registerOperand line b
      return .complete ⟨op, dst, src, off, 0⟩
    | _ => .error (wrongCount line mnemonic shape operands)

/-- An instruction line (R103 to R117). -/
def parseInstruction (line : Nat) (mnemonic : Token) (operands : List Token) : Except AssemblyError Parsed :=
  match mnemonicShape mnemonic with
  | none => .error ⟨line, mnemonic, .unknownMnemonic⟩
  | some shape => parseOperands line mnemonic shape operands

/-! ## The two passes -/

/-- An instruction of the program: its source line, its index, and what was parsed (R115). -/
structure Item where
  line : Nat
  index : Nat
  parsed : Parsed
  deriving DecidableEq, Repr

/-- Label positions, in instruction units (R101). -/
abbrev Labels := List (Token × Nat)

/-- A first token that begins with `;;` makes the line a comment (R102). -/
def isComment : Token → Bool
  | ';' :: ';' :: _ => true
  | _ => false

/-- A first token that ends in `:` declares a label; the name is the token without the colon (R101). -/
def labelName? (t : Token) : Option Token :=
  match t.reverse with
  | ':' :: name => some name.reverse
  | _ => none

/-- A label declaration at position `index` (R101). -/
def declareLabel (line index : Nat) (first name : Token) (rest : List Token) (labels : Labels) :
    Except AssemblyError Labels :=
  match rest with
  | surplus :: _ => .error ⟨line, surplus, .surplusOperand⟩
  | [] =>
    if name.isEmpty then .error ⟨line, first, .emptyLabel⟩
    else if (labels.lookup name).isSome then .error ⟨line, first, .duplicateLabel⟩
    else .ok ((name, index) :: labels)

/-- Pass one: collect the labels and parse the instructions, line by line (R97, R101, R102, R115). -/
def scanLines : List (Nat × List Token) → Nat → Labels → Except AssemblyError (Labels × List Item)
  | [], _, labels => .ok (labels, [])
  | (_, []) :: rest, index, labels => scanLines rest index labels
  | (line, first :: operands) :: rest, index, labels =>
    if isComment first then scanLines rest index labels
    else
      match labelName? first with
      | some name => do
        let labels ← declareLabel line index first name operands labels
        scanLines rest index labels
      | none => do
        let parsed ← parseInstruction line first operands
        let (labels, items) ← scanLines rest (index + 1) labels
        return (labels, ⟨line, index, parsed⟩ :: items)

/-- `disp = position(label) - (index + 1)`: counted from the instruction after the referencing one (R115). -/
def displacement (position index : Nat) : Int := position - (index + 1)

/-- Pass two on one instruction: its word, its label resolved (R115). -/
def emitItem (labels : Labels) (item : Item) : Except AssemblyError Word :=
  match item.parsed with
  | .complete f => .ok (encodeFields f)
  | .toLabel f label =>
    match labels.lookup label with
    | none => .error ⟨item.line, label, .unresolvedLabel⟩
    | some position =>
      let disp := displacement position item.index
      if -32768 ≤ disp ∧ disp ≤ 32767 then .ok (encodeFields { f with offset := BitVec.ofInt 16 disp })
      else .error ⟨item.line, label, .displacementOutOfRange⟩

/-- The assembler: the program's words in source order, or the first error and no word (R116, R119, R120). -/
def assemble (src : List Char) : Except AssemblyError (List Word) := do
  let (labels, items) ← scanLines (sourceLines src) 0 []
  items.mapM (emitItem labels)

end Sys2Proof.Machine
end

