-- ==== Sys2Proof/Machine/HostInterface.lean ====
section
/-! DEFINITION. The three host transactions (R296). They act between steps and are not steps (R290, R298; log entry 9).
There are no others: no register preload, no access to scratch memory, no pause (R298, R299, R300). -/

namespace Sys2Proof.Machine

/-- `reset(MEM_INIT)`: accepted in every state (R290), any 128 bytes (R292); the program is the host's and stays (R293).
It is also how the host cancels a run (R299). -/
def hostReset (memInit : Nat → Byte) (s : State) : State :=
  { State.resetWith memInit with program := s.program }

/-- `run(PROG)`: accepted only in Ready, where it fixes the program and starts it; otherwise ignored (R297). A list
longer than the largest `PROG_LEN` is no program and is ignored too (R4; log entry 9). -/
def hostRun (prog : List Word) (s : State) : State :=
  if s.control = .ready ∧ prog.length ≤ Config.progLenMax then { s with program := prog, control := .running }
  else s

/-- What the host can see (R39, R298). -/
structure Observation where
  regs : Vector Word 11
  pc : Int
  control : Control
  fault : Option Cause
  unsup : Bool
  unsupCount : Nat
  result : Word
  deriving DecidableEq, Repr

/-- `observe`: a read-only projection (R39, R298); `RESULT` is `x[0]` (R34). -/
def observe (s : State) : Observation where
  regs := s.regs
  pc := s.pc
  control := s.control
  fault := s.fault
  unsup := s.unsup
  unsupCount := s.unsupCount
  result := s.result

end Sys2Proof.Machine
end

