-- ==== Sys2Proof/Safety.lean ====
section
/-! DEFINITION. The terms in which claims about the machine are stated: the invariant of every run, how a run ends, and
what a next state keeps. The frames read registers and memory one at a time, through the model's own reads. -/

namespace Sys2Proof.Machine

/-! ## Legal words -/

/-- The 90 legal opcode bytes, in ascending order, as R89 lists them. -/
def legalOpcodes : List (BitVec 8) :=
  [0x04, 0x05, 0x07, 0x0c, 0x0f, 0x14, 0x15, 0x17, 0x18, 0x1c, 0x1d, 0x1f, 0x20, 0x24, 0x25, 0x27,
   0x28, 0x2c, 0x2d, 0x2f, 0x30, 0x34, 0x35, 0x37, 0x38, 0x3c, 0x3d, 0x3f, 0x40, 0x44, 0x45, 0x47,
   0x48, 0x4c, 0x4d, 0x4f, 0x50, 0x54, 0x55, 0x57, 0x58, 0x5c, 0x5d, 0x5f, 0x61, 0x62, 0x63, 0x64,
   0x65, 0x67, 0x69, 0x6a, 0x6b, 0x6c, 0x6d, 0x6f, 0x71, 0x72, 0x73, 0x74, 0x75, 0x77, 0x79, 0x7a,
   0x7b, 0x7c, 0x7d, 0x7f, 0x84, 0x85, 0x87, 0x94, 0x95, 0x97, 0x9c, 0x9f, 0xa4, 0xa7, 0xac, 0xaf,
   0xb4, 0xb7, 0xbc, 0xbf, 0xc4, 0xc7, 0xcc, 0xcf, 0xd4, 0xdc]

/-! ## Runs -/

/-- The invariant of every run. -/
structure State.Inv (s : State) : Prop where
  /-- Scratch memory is in its canonical form: the 128 bytes of R35 and no other. -/
  mem_wf : s.mem.wf
  /-- R10 holds 0 for the whole run (R24). -/
  frame_zero : s.read64 frameRegister = 0
  /-- Every value `pc` can take lies in this range (R27). -/
  pc_range : -32767 ≤ s.pc ∧ s.pc ≤ 2 ^ 32 + 32767
  /-- `PROG_LEN <= 2^32` (R4). -/
  program_length : s.program.length ≤ Config.progLenMax
  /-- A cause is recorded only by the step that halts (R32, R270). -/
  fault_halted : s.fault ≠ none → s.control = .halted
  /-- The sticky bit says that the counter has counted (R33). -/
  unsup_counted : s.unsup = true ↔ 0 < s.unsupCount

/-- The normal halt: Halted and no cause (R32, R276). -/
def State.HaltedNormally (s : State) : Prop := s.control = .halted ∧ s.fault = none

/-- The faulted halt: Halted with a cause (R32, R270). -/
def State.HaltedByFault (s : State) : Prop := s.control = .halted ∧ s.fault ≠ none

/-! ## Frames -/

/-- Control state, cause, report and program are kept. -/
structure StatusKept (s t : State) : Prop where
  control : t.control = s.control
  fault : t.fault = s.fault
  unsup : t.unsup = s.unsup
  unsupCount : t.unsupCount = s.unsupCount
  program : t.program = s.program

/-- Every register is kept. -/
def RegsKept (s t : State) : Prop := ∀ r, t.read64 r = s.read64 r

/-- Every byte of memory reads as before. -/
def MemKept (s t : State) : Prop := ∀ a, t.mem.readByte a = s.mem.readByte a

/-- From `s` to `t`, register `d` took the value `v`, `pc` advanced by one, and everything else was kept. -/
structure WroteReg (s : State) (d : RegIdx) (v : Nat) (t : State) : Prop where
  value : (t.read64 d).toNat = v
  others : ∀ r, r ≠ d → t.read64 r = s.read64 r
  pc : t.pc = s.pc + 1
  mem : MemKept s t
  status : StatusKept s t

/-- From `s` to `t`, `pc` became `target`, and everything else was kept. -/
structure Jumped (s : State) (target : Int) (t : State) : Prop where
  pc : t.pc = target
  regs : RegsKept s t
  mem : MemKept s t
  status : StatusKept s t

/-- From `s` to `t`, the `n` bytes from address `a` up took the low bytes of `v`, least significant first, `pc` advanced by
one, and everything else was kept. -/
structure Stored (s : State) (a n v : Nat) (t : State) : Prop where
  bytes : ∀ k, k < n → (t.mem.readByte (a + k)).toNat = v / 2 ^ (8 * k) % 2 ^ 8
  otherBytes : ∀ b, b < a ∨ a + n ≤ b → t.mem.readByte b = s.mem.readByte b
  regs : RegsKept s t
  pc : t.pc = s.pc + 1
  status : StatusKept s t

/-- From `s` to `t`, the machine took cause `c`: Halted, the cause recorded, everything else kept (R270). -/
structure Faulted (s : State) (c : Cause) (t : State) : Prop where
  control : t.control = .halted
  fault : t.fault = some c
  regs : RegsKept s t
  pc : t.pc = s.pc
  mem : MemKept s t
  unsup : t.unsup = s.unsup
  unsupCount : t.unsupCount = s.unsupCount
  program : t.program = s.program

/-- From `s` to `t`, a packet load was reported and skipped: everything but the report and `pc` was kept (R250). -/
structure Reported (s t : State) : Prop where
  unsup : t.unsup = true
  unsupCount : t.unsupCount = s.unsupCount + 1
  pc : t.pc = s.pc + 1
  regs : RegsKept s t
  mem : MemKept s t
  control : t.control = s.control
  fault : t.fault = s.fault
  program : t.program = s.program

end Sys2Proof.Machine
end

