-- ==== Sys2Proof/Certificates/Slice0/Obligations.lean ====
section
/-! DEFINITION. The statements about the machine. The arithmetic a statement asks for is written here on natural numbers
and integers, from the spec's own formulas (R6), and not with the model's operations. Docstrings name the rules; a value
that is a decision of the spec is named with its D<n> (spec/92_eei_decisions.md). -/

namespace Sys2Proof.Claims

open Sys2Proof.Machine

/-! ## The spec's numbers -/

/-- The field that names register `d` (R25). -/
def field (d : RegIdx) : RegField := BitVec.ofNat 4 d.val

/-- `signed_N(v)` of a pattern of `n` bits (R6). -/
def signedOf (n v : Nat) : Int := if v < 2 ^ (n - 1) then v else (v : Int) - 2 ^ n

/-- `sext_64(imm)` as an unsigned number: the low 32 bits are `imm`, bits 63..32 all equal bit 31 of it (R6, D5). -/
def sextImm (imm : Imm) : Nat := if imm.toNat < 2 ^ 31 then imm.toNat else imm.toNat + (2 ^ 64 - 2 ^ 32)

/-- `asr_N(a, n)`: the pattern of `floor(signed_N(a) / 2^n)` (R6). -/
def asr (width a n : Nat) : Nat := (signedOf width a / 2 ^ n % 2 ^ width).toNat

/-- The low `n` bytes of `v` in the opposite order: byte 0 of `v` becomes the most significant of them (`bswap`, R6). -/
def byteReversed : Nat → Nat → Nat
  | 0, _ => 0
  | n + 1, v => v % 2 ^ 8 * 2 ^ (8 * n) + byteReversed n (v / 2 ^ 8)

/-- The sum of `mem[a + k] * 2^(8k)` for `k < n` (R55). -/
def littleEndian (m : Memory) (a n : Nat) : Nat :=
  ((List.range n).map fun k => (m.readByte (a + k)).toNat * 2 ^ (8 * k)).sum

/-- The effective address of R52, with the model's own function. -/
def addressOf (s : State) (base : RegIdx) (offset : Offset) : Int := effectiveAddress (s.read64 base) offset

/-- An access of `n` bytes at `ea` that the bounds check admits (R53). -/
def Admitted (ea : Int) (n : Nat) : Prop := 0 ≤ ea ∧ ea + n ≤ 128

/-! ## What a form does with a given function -/

/-- A form that writes `dst` from `dst` and `imm`: on every register it may write it completes and writes `f a imm`. -/
def DstImmRule (i : RegField → Imm → Instr) (f : Nat → Imm → Nat) : Prop :=
  ∀ (d : RegIdx) (imm : Imm) (s : State), d ≠ frameRegister →
    ∃ t, exec (i (field d) imm) s = .next t ∧ WroteReg s d (f (s.read64 d).toNat imm) t

/-- A form that writes `dst` from `dst` and `src`: on every register it may write, and every source, the destination
itself among them, it completes and writes `f a b` of the two old values. -/
def DstSrcRule (i : RegField → RegField → Instr) (f : Nat → Nat → Nat) : Prop :=
  ∀ (d r : RegIdx) (s : State), d ≠ frameRegister →
    ∃ t, exec (i (field d) (field r)) s = .next t ∧ WroteReg s d (f (s.read64 d).toNat (s.read64 r).toNat) t

/-- A form that writes `dst` from `dst` alone. -/
def DstRule (i : RegField → Instr) (f : Nat → Nat) : Prop :=
  ∀ (d : RegIdx) (s : State), d ≠ frameRegister →
    ∃ t, exec (i (field d)) s = .next t ∧ WroteReg s d (f (s.read64 d).toNat) t

/-- A dividing IMM form of `width` bits: with a divisor that is not zero it completes and writes `f a b`; `divisor` is the
divisor `imm` stands for. -/
def DivideImmRule (i : RegField → Imm → Instr) (width : Nat) (divisor : Imm → Nat) (f : Nat → Nat → Nat) : Prop :=
  ∀ (d : RegIdx) (imm : Imm) (s : State), d ≠ frameRegister → divisor imm ≠ 0 →
    ∃ t, exec (i (field d) imm) s = .next t ∧
      WroteReg s d (f ((s.read64 d).toNat % 2 ^ width) (divisor imm)) t

/-- A dividing SRC form of `width` bits, its divisor the low `width` bits of `src`. -/
def DivideSrcRule (i : RegField → RegField → Instr) (width : Nat) (f : Nat → Nat → Nat) : Prop :=
  ∀ (d r : RegIdx) (s : State), d ≠ frameRegister → (s.read64 r).toNat % 2 ^ width ≠ 0 →
    ∃ t, exec (i (field d) (field r)) s = .next t ∧
      WroteReg s d (f ((s.read64 d).toNat % 2 ^ width) ((s.read64 r).toNat % 2 ^ width)) t

/-- A dividing IMM form with `imm` 0 takes `DivideByZero`. -/
def ZeroImmFaults (i : RegField → Imm → Instr) : Prop :=
  ∀ (d : RegIdx) (s : State), d ≠ frameRegister →
    ∃ t, exec (i (field d) 0) s = .next t ∧ Faulted s .divideByZero t

/-- A dividing SRC form whose divisor's low `width` bits are 0 takes `DivideByZero`. -/
def ZeroSrcFaults (i : RegField → RegField → Instr) (width : Nat) : Prop :=
  ∀ (d r : RegIdx) (s : State), d ≠ frameRegister → (s.read64 r).toNat % 2 ^ width = 0 →
    ∃ t, exec (i (field d) (field r)) s = .next t ∧ Faulted s .divideByZero t

/-- The low halves of every register agree. -/
def LowHalvesAgree (s s' : State) : Prop := ∀ r, (s.read64 r).toNat % 2 ^ 32 = (s'.read64 r).toNat % 2 ^ 32

/-- From two states whose low halves agree, `i` leaves the same value below 2^32 in `d`, or takes `DivideByZero` in both. -/
def DependsOnLowHalves (i : Instr) (d : RegIdx) : Prop :=
  ∀ s s' : State, LowHalvesAgree s s' →
    (∃ t t', exec i s = .next t ∧ exec i s' = .next t' ∧ t.read64 d = t'.read64 d ∧ (t.read64 d).toNat < 2 ^ 32 ∧
      t.fault = s.fault ∧ t'.fault = s'.fault) ∨
    (∃ t t', exec i s = .next t ∧ exec i s' = .next t' ∧ Faulted s .divideByZero t ∧ Faulted s' .divideByZero t')

/-- A conditional jump's IMM form: `pc` is the only change, and `cond a b` decides it, on the unsigned patterns. -/
def JumpImmRule (i : RegField → Imm → Offset → Instr) (cond : Nat → Nat → Prop) : Prop :=
  ∀ (d : RegIdx) (imm : Imm) (offset : Offset) (s : State),
    ∃ t, exec (i (field d) imm offset) s = .next t ∧
      (cond (s.read64 d).toNat (sextImm imm) → Jumped s (s.pc + 1 + signedOf 16 offset.toNat) t) ∧
      (¬ cond (s.read64 d).toNat (sextImm imm) → Jumped s (s.pc + 1) t)

/-- A conditional jump's SRC form. -/
def JumpSrcRule (i : RegField → RegField → Offset → Instr) (cond : Nat → Nat → Prop) : Prop :=
  ∀ (d r : RegIdx) (offset : Offset) (s : State),
    ∃ t, exec (i (field d) (field r) offset) s = .next t ∧
      (cond (s.read64 d).toNat (s.read64 r).toNat → Jumped s (s.pc + 1 + signedOf 16 offset.toNat) t) ∧
      (¬ cond (s.read64 d).toNat (s.read64 r).toNat → Jumped s (s.pc + 1) t)

/-- A load of `n` bytes whose access is admitted. -/
def LoadRule (i : RegField → RegField → Offset → Instr) (n : Nat) : Prop :=
  ∀ (d base : RegIdx) (offset : Offset) (s : State), d ≠ frameRegister → Admitted (addressOf s base offset) n →
    ∃ t, exec (i (field d) (field base) offset) s = .next t ∧
      WroteReg s d (littleEndian s.mem (addressOf s base offset).toNat n) t

/-- A store of the low `n` bytes of `v imm` whose access is admitted. -/
def StoreImmRule (i : RegField → Offset → Imm → Instr) (n : Nat) (v : Imm → Nat) : Prop :=
  ∀ (base : RegIdx) (offset : Offset) (imm : Imm) (s : State), s.mem.wf → Admitted (addressOf s base offset) n →
    ∃ t, exec (i (field base) offset imm) s = .next t ∧ Stored s (addressOf s base offset).toNat n (v imm) t

/-- A store of the low `n` bytes of `x[src]` whose access is admitted. -/
def StoreSrcRule (i : RegField → RegField → Offset → Instr) (n : Nat) : Prop :=
  ∀ (base r : RegIdx) (offset : Offset) (s : State), s.mem.wf → Admitted (addressOf s base offset) n →
    ∃ t, exec (i (field base) (field r) offset) s = .next t ∧
      Stored s (addressOf s base offset).toNat n (s.read64 r).toNat t

/-- A load of `n` bytes whose access is not admitted. -/
def LoadOutside (i : RegField → RegField → Offset → Instr) (n : Nat) : Prop :=
  ∀ (d base : RegIdx) (offset : Offset) (s : State), d ≠ frameRegister → ¬ Admitted (addressOf s base offset) n →
    ∃ t, exec (i (field d) (field base) offset) s = .next t ∧ Faulted s .memOutOfBounds t

/-- A store of an immediate, of `n` bytes, whose access is not admitted. -/
def StoreImmOutside (i : RegField → Offset → Imm → Instr) (n : Nat) : Prop :=
  ∀ (base : RegIdx) (offset : Offset) (imm : Imm) (s : State), ¬ Admitted (addressOf s base offset) n →
    ∃ t, exec (i (field base) offset imm) s = .next t ∧ Faulted s .memOutOfBounds t

/-- A store of a register, of `n` bytes, whose access is not admitted. -/
def StoreSrcOutside (i : RegField → RegField → Offset → Instr) (n : Nat) : Prop :=
  ∀ (base r : RegIdx) (offset : Offset) (s : State), ¬ Admitted (addressOf s base offset) n →
    ∃ t, exec (i (field base) (field r) offset) s = .next t ∧ Faulted s .memOutOfBounds t

/-- A packet load. -/
def PacketRule (i : Instr) : Prop := ∀ s : State, ∃ t, exec i s = .next t ∧ Reported s t

/-- Doing `i` and then `j` writes `f` of the old value to `d`. -/
def TwoStepRule (i j : RegField → Instr) (f : Nat → Nat) : Prop :=
  ∀ (d : RegIdx) (s : State), d ≠ frameRegister →
    ∃ t u, exec (i (field d)) s = .next t ∧ exec (j (field d)) t = .next u ∧
      (u.read64 d).toNat = f (s.read64 d).toNat ∧ u.pc = s.pc + 2

/-- The instruction that a step at `s` fetches and decodes. -/
def Fetches (s : State) (i : Instr) : Prop :=
  s.control = .running ∧ ∃ w, fetch s = .ok w ∧ decode w = .ok i

end Sys2Proof.Claims

open Sys2Proof Sys2Proof.Machine Sys2Proof.Claims

/-! ## Encoding -/

/-- Decoding the encoder's word of any instruction gives the instruction back, every operand at every value. The opcode
bytes are the spec's from general knowledge (R89, D1; log entry 7). -/
def Obligations.DecodeOfEncodeIsIdentity : Prop := ∀ i : Instr, decode (encode i) = .ok i

/-- R82: every word splits into its five fields, `offset` as a signed number and the others unsigned, whatever the opcode. -/
def Obligations.DecodeSplitsFields : Prop :=
  ∀ w : Word, (decodeFields w).toInts =
    (((w.toNat % 2 ^ 8 : Nat) : Int), ((w.toNat / 2 ^ 8 % 2 ^ 4 : Nat) : Int), ((w.toNat / 2 ^ 12 % 2 ^ 4 : Nat) : Int),
      signedOf 16 (w.toNat / 2 ^ 16 % 2 ^ 16), ((w.toNat / 2 ^ 32 : Nat) : Int))

/-- R84: the codec's two directions, on the integers of R82 and R83. -/
def Obligations.CodecRoundTripsBothWays : Prop :=
  (∀ opcode dst src offset imm : Int, 0 ≤ opcode ∧ opcode ≤ 255 → 0 ≤ dst ∧ dst ≤ 15 → 0 ≤ src ∧ src ≤ 15 →
    -32768 ≤ offset ∧ offset ≤ 32767 → 0 ≤ imm ∧ imm < 2 ^ 32 →
    ∃ w, encodeInts opcode dst src offset imm = .ok w ∧ (decodeFields w).toInts = (opcode, dst, src, offset, imm)) ∧
  (∀ w : Word, ∀ opcode dst src offset imm : Int, (decodeFields w).toInts = (opcode, dst, src, offset, imm) →
    encodeInts opcode dst src offset imm = .ok w)

/-- R83 (D29): the first value out of its range is refused by name, and otherwise the word is the stated sum. -/
def Obligations.EncoderValidatesThenSums : Prop :=
  ∀ opcode dst src offset imm : Int,
    let okOpcode := 0 ≤ opcode ∧ opcode ≤ 255
    let okDst := 0 ≤ dst ∧ dst ≤ 15
    let okSrc := 0 ≤ src ∧ src ≤ 15
    let okOffset := -32768 ≤ offset ∧ offset ≤ 32767
    let okImm := 0 ≤ imm ∧ imm ≤ 2 ^ 32 - 1
    (¬ okOpcode → encodeInts opcode dst src offset imm = .error .opcode) ∧
    (okOpcode → ¬ okDst → encodeInts opcode dst src offset imm = .error .dst) ∧
    (okOpcode → okDst → ¬ okSrc → encodeInts opcode dst src offset imm = .error .src) ∧
    (okOpcode → okDst → okSrc → ¬ okOffset → encodeInts opcode dst src offset imm = .error .offset) ∧
    (okOpcode → okDst → okSrc → okOffset → ¬ okImm → encodeInts opcode dst src offset imm = .error .imm) ∧
    (okOpcode → okDst → okSrc → okOffset → okImm → ∃ w, encodeInts opcode dst src offset imm = .ok w ∧
      (w.toNat : Int) = opcode + dst * 2 ^ 8 + src * 2 ^ 12 + offset % 2 ^ 16 * 2 ^ 16 + imm * 2 ^ 32)

/-- R90, R91 (zero in the unused fields: D28): two words that agree in the opcode and in the fields its form uses are the
same instruction, whatever the other fields hold, and the encoder writes zero in those. -/
def Obligations.UnusedFieldsAreIgnored : Prop :=
  (∀ (w w' : Word) (i : Instr), decode w = .ok i →
    (decodeFields w').opcode = (decodeFields w).opcode →
    (i.form.usesDst = true → (decodeFields w').dst = (decodeFields w).dst) →
    (i.form.usesSrc = true → (decodeFields w').src = (decodeFields w).src) →
    (i.form.usesOffset = true → (decodeFields w').offset = (decodeFields w).offset) →
    (i.form.usesImm = true → (decodeFields w').imm = (decodeFields w).imm) → decode w' = .ok i) ∧
  (∀ i : Instr, (i.form.usesDst = false → (decodeFields (encode i)).dst = 0) ∧
    (i.form.usesSrc = false → (decodeFields (encode i)).src = 0) ∧
    (i.form.usesOffset = false → (decodeFields (encode i)).offset = 0) ∧
    (i.form.usesImm = false → (decodeFields (encode i)).imm = 0))

/-- R89, R92, R93: a word is no instruction exactly when its opcode byte is not one of the 90 legal bytes, or is `0xd4` or
`0xdc` with `imm` not 16, 32 or 64 (D12). The bytes are the spec's from general knowledge (D1; log entry 7). -/
def Obligations.IllegalWordsAreExactlyThese : Prop :=
  ∀ w : Word, (∃ e, decode w = .error e) ↔
    (decodeFields w).opcode ∉ legalOpcodes ∨
    (((decodeFields w).opcode = 0xd4 ∨ (decodeFields w).opcode = 0xdc) ∧
      (decodeFields w).imm ≠ 16 ∧ (decodeFields w).imm ≠ 32 ∧ (decodeFields w).imm ≠ 64)

/-- Eleven words, at least one of each family, written out in the spec's examples, are the instructions they stand for
there. Their opcode bytes are the spec's from general knowledge, not from its source (R89, D1; log entry 7, PRESUMED). -/
def Obligations.DecodesWordsOfTheSpec : Prop :=
  decode 0x0000000100000107 = .ok (.addImm 1 1) ∧
  decode 0x000000000000211c = .ok (.sub32Src 1 2) ∧
  decode 0x00000020000001dc = .ok (.be32 1) ∧
  decode 0x00000000fffd0005 = .ok (.ja 0xfffd) ∧
  decode 0x0000000100020165 = .ok (.jsgtImm 1 1 2) ∧
  decode 0x0000000700000085 = .ok (.call 7) ∧
  decode 0xffffffff00000318 = .ok (.lddw 3 0xffffffff) ∧
  decode 0x0000000000041261 = .ok (.ldxw 2 1 4) ∧
  decode 0x8899aabb0004017a = .ok (.stdw 1 4 0x8899aabb) ∧
  decode 0x0000000000042173 = .ok (.stxb 1 2 4) ∧
  decode 0x0000000000084350 = .ok .ldindb

/-! ## The step -/

/-- R262: where the word at `pc` decodes to an instruction, a step of a Running machine is that instruction's `exec`, and
the step adds nothing around it. -/
def Obligations.StepRunsDecodedInstruction : Prop :=
  ∀ (s : State) (w : Word) (i : Instr), s.control = .running → 0 ≤ s.pc → s.program[s.pc.toNat]? = some w →
    decode w = .ok i → step s = exec i s

/-- R69: fetch outside the program reads no word, and the step takes `PcOutOfBounds`, on either side of the program. -/
def Obligations.FetchOutsideProgramFaults : Prop :=
  ∀ s : State, s.pc < 0 ∨ (s.program.length : Int) ≤ s.pc →
    fetch s = .error .pcOutOfBounds ∧
    (s.control = .running → ∃ t, step s = .next t ∧ Faulted s .pcOutOfBounds t)

/-- R265: executing a word that is no instruction takes `IllegalInstruction` (D2, D12). Which words those are is
`IllegalWordsAreExactlyThese`. -/
def Obligations.IllegalWordFaults : Prop :=
  ∀ (s : State) (w : Word) (e : DecodeError), s.control = .running → 0 ≤ s.pc → s.program[s.pc.toNat]? = some w →
    decode w = .error e → ∃ t, step s = .next t ∧ Faulted s .illegalInstruction t

/-- R40: in Ready and in Halted no step is taken. How the model says so (a named stop) is log entry 2. -/
def Obligations.NoStepOutsideRunning : Prop :=
  ∀ s : State, (s.control = .ready → step s = .fault .notReadyToStep) ∧
    (s.control = .halted → step s = .fault .alreadyHalted)

/-- R279: every Running state has a next state, whatever its program, memory and registers. -/
def Obligations.EveryRunningStepCompletes : Prop :=
  (∀ (i : Instr) (s : State), ∃ t, exec i s = .next t) ∧ (∀ s : State, s.control = .running → ∃ t, step s = .next t)

/-- R270: a step that raises a fault leaves no trace but `STATE` and `FAULT`, whichever instruction raised it (D22). -/
def Obligations.EveryFaultIsPrecise : Prop :=
  ∀ (s t : State) (c : Cause), s.fault = none → step s = .next t → t.fault = some c → Faulted s c t

/-- R94: a register field that the form uses and that holds 11..15 takes `InvalidRegister`, before anything else the
instruction could raise (the place in the order is D24). -/
def Obligations.UnnamedRegisterFaults : Prop :=
  ∀ (i : Instr) (s : State), (∃ f, (i.usedDst = some f ∨ i.usedSrc = some f) ∧ 10 < f.toNat) →
    ∃ t, exec i s = .next t ∧ Faulted s .invalidRegister t

/-- R24, R267: with its register fields naming registers, a form that writes `dst` and names R10 there takes
`ReadOnlyRegister` (D4), before `DivideByZero` and `MemOutOfBounds` (D24). -/
def Obligations.WritingFrameRegisterFaults : Prop :=
  ∀ (i : Instr) (s : State), (∀ f, i.usedDst = some f ∨ i.usedSrc = some f → f.toNat ≤ 10) →
    i.form.writesDst = true → i.usedDst = some 10 → ∃ t, exec i s = .next t ∧ Faulted s .readOnlyRegister t

/-- R280: past the register checks, only the dividing instructions raise `DivideByZero`, only the loads and stores raise
`MemOutOfBounds`, and no instruction raises anything else. The dividing instructions are named by their opcode bytes,
which are the spec's from general knowledge (R89, D1; log entry 7, PRESUMED): `div`, `mod`, `div32` and `mod32`, IMM and
SRC. -/
def Obligations.OwnFaultsByFamily : Prop :=
  ∀ (i : Instr) (s t : State) (c : Cause), i.WellFormed = true → s.fault = none → exec i s = .next t →
    t.fault = some c →
    (c = .divideByZero ∧ i.opcode ∈ [0x37, 0x3f, 0x97, 0x9f, 0x34, 0x3c, 0x94, 0x9c]) ∨
    (c = .memOutOfBounds ∧ (i.form = .ldx ∨ i.form = .st ∨ i.form = .stx))

/-! ## Whole-machine rules -/

/-- Every step keeps the invariant of every run (`State.Inv`): memory in canonical form (the model's: log entry 6), R10 at
0 (R24), `pc` in its range (R27), the program's length (R4), a recorded cause only in Halted (R32), the report's two parts
in step (R33). -/
def Obligations.EveryStepKeepsInvariant : Prop := ∀ s t : State, s.Inv → step s = .next t → t.Inv

/-- Reset's state meets the invariant, for any `MEM_INIT`. -/
def Obligations.ResetMeetsInvariant : Prop := State.reset.Inv ∧ ∀ memInit, (State.resetWith memInit).Inv

/-- R290, R297: the host's transactions keep the invariant, so it holds between any steps and transactions. That `run`
ignores a list of more than 2^32 words, which is no program, is the model's choice (DESIGN CHOICE, log entry 9). -/
def Obligations.HostTransactionsKeepInvariant : Prop :=
  ∀ s : State, s.Inv → (∀ memInit, (hostReset memInit s).Inv) ∧ (∀ prog, (hostRun prog s).Inv)

/-- R24: no step changes R10, in any state. -/
def Obligations.NoStepChangesFrameRegister : Prop :=
  ∀ s t : State, step s = .next t → t.read64 frameRegister = s.read64 frameRegister

/-- R302: no store, and no other step, reaches the program. The program is the model's own field (log entry 1). -/
def Obligations.NoStepChangesProgram : Prop := ∀ s t : State, step s = .next t → t.program = s.program

/-- R35, R59, R61: if a step changes how a byte of memory reads, it ran an `st` or `stx` instruction, which changed no
register (R59), and the byte lies in scratch memory (R35). -/
def Obligations.OnlyStoresChangeMemory : Prop :=
  ∀ (s t : State) (a : Nat), step s = .next t → t.mem.readByte a ≠ s.mem.readByte a →
    (∃ i, Fetches s i ∧ (i.form = .st ∨ i.form = .stx)) ∧ RegsKept s t ∧ a < 128

/-- R35, R61: a step that runs no `ldx` instruction reads no byte of memory: from the same state with any other memory it
leaves the same next state, memory apart. -/
def Obligations.OnlyLoadsReadMemory : Prop :=
  ∀ (s t : State) (m : Memory), step s = .next t → (∀ i, Fetches s i → i.form ≠ .ldx) →
    ∃ t', step { s with mem := m } = .next t' ∧ { t' with mem := t.mem } = t

/-- R33 (D25): the report changes only by an executed packet load, which sets the bit and counts one. -/
def Obligations.OnlyPacketLoadsReport : Prop :=
  ∀ s t : State, step s = .next t → t.unsup ≠ s.unsup ∨ t.unsupCount ≠ s.unsupCount →
    (∃ i, Fetches s i ∧ i.form = .pkt) ∧ t.unsup = true ∧ t.unsupCount = s.unsupCount + 1

/-- R31, R276: from Running a step stays Running with no cause recorded, halts normally by running `exit`, or halts with
a cause; it never reaches Ready. -/
def Obligations.RunningHaltsByExitOrFault : Prop :=
  ∀ s t : State, s.fault = none → step s = .next t →
    (t.control = .running ∧ t.fault = none) ∨ (t.HaltedNormally ∧ Fetches s .exit) ∨ t.HaltedByFault

/-! ## 64-bit ALU -/

/-- R130, R132, R134, R136, R140, R142, R150, R152: the IMM forms whose result needs no divisor and no shift amount. The
operand is the sign-extended `imm` (D5); sums, differences and products wrap (D6). -/
def Obligations.Alu64ImmResults : Prop :=
  DstImmRule .addImm (fun a imm => (a + sextImm imm) % 2 ^ 64) ∧
  DstImmRule .subImm (fun a imm => (a + 2 ^ 64 - sextImm imm) % 2 ^ 64) ∧
  DstImmRule .mulImm (fun a imm => a * sextImm imm % 2 ^ 64) ∧
  DstImmRule .orImm (fun a imm => a ||| sextImm imm) ∧
  DstImmRule .andImm (fun a imm => a &&& sextImm imm) ∧
  DstImmRule .xorImm (fun a imm => a ^^^ sextImm imm) ∧
  DstImmRule .movImm (fun _ imm => sextImm imm)

/-- R130, R133, R135, R137, R141, R143, R151, R153: the same seven operations in SRC form; sums,
differences and products wrap (D6). -/
def Obligations.Alu64SrcResults : Prop :=
  DstSrcRule .addSrc (fun a b => (a + b) % 2 ^ 64) ∧
  DstSrcRule .subSrc (fun a b => (a + 2 ^ 64 - b) % 2 ^ 64) ∧
  DstSrcRule .mulSrc (fun a b => a * b % 2 ^ 64) ∧
  DstSrcRule .orSrc (fun a b => a ||| b) ∧
  DstSrcRule .andSrc (fun a b => a &&& b) ∧
  DstSrcRule .xorSrc (fun a b => a ^^^ b) ∧
  DstSrcRule .movSrc (fun _ b => b)

/-- R144 to R147, R154, R155: the 64-bit shifts, by the low six bits of the second operand (D8). -/
def Obligations.Shift64Results : Prop :=
  DstImmRule .lshImm (fun a imm => a * 2 ^ (imm.toNat % 64) % 2 ^ 64) ∧
  DstSrcRule .lshSrc (fun a b => a * 2 ^ (b % 64) % 2 ^ 64) ∧
  DstImmRule .rshImm (fun a imm => a / 2 ^ (imm.toNat % 64)) ∧
  DstSrcRule .rshSrc (fun a b => a / 2 ^ (b % 64)) ∧
  DstImmRule .arshImm (fun a imm => asr 64 a (imm.toNat % 64)) ∧
  DstSrcRule .arshSrc (fun a b => asr 64 a (b % 64))

/-- R138, R139, R148, R149: unsigned quotient and remainder (D7), for a divisor that is not zero; an IMM divisor
is the sign-extended `imm` (D5). -/
def Obligations.DivMod64Results : Prop :=
  DivideImmRule .divImm 64 sextImm (· / ·) ∧ DivideSrcRule .divSrc 64 (· / ·) ∧
  DivideImmRule .modImm 64 sextImm (· % ·) ∧ DivideSrcRule .modSrc 64 (· % ·)

/-- R156, R186: two's-complement negation (D9); `neg32` on the low half, the upper half cleared. -/
def Obligations.NegateResults : Prop :=
  DstRule .neg (fun a => (2 ^ 64 - a) % 2 ^ 64) ∧ DstRule .neg32 (fun a => (2 ^ 32 - a % 2 ^ 32) % 2 ^ 32)

/-! ## 32-bit ALU -/

/-- R160, R162, R164, R166, R170, R172, R180, R182: the 32-bit IMM forms on the low half of `dst` (D10) and `imm` as it
stands; sums, differences and products wrap (D6), and the result is zero-extended. -/
def Obligations.Alu32ImmResults : Prop :=
  DstImmRule .add32Imm (fun a imm => (a + imm.toNat) % 2 ^ 32) ∧
  DstImmRule .sub32Imm (fun a imm => (a + 2 ^ 32 - imm.toNat) % 2 ^ 32) ∧
  DstImmRule .mul32Imm (fun a imm => a * imm.toNat % 2 ^ 32) ∧
  DstImmRule .or32Imm (fun a imm => a % 2 ^ 32 ||| imm.toNat) ∧
  DstImmRule .and32Imm (fun a imm => a % 2 ^ 32 &&& imm.toNat) ∧
  DstImmRule .xor32Imm (fun a imm => a % 2 ^ 32 ^^^ imm.toNat) ∧
  DstImmRule .mov32Imm (fun _ imm => imm.toNat)

/-- R160, R163, R165, R167, R171, R173, R181, R183: the 32-bit SRC forms on the two low halves (D10); sums, differences
and products wrap (D6), and the result is zero-extended. -/
def Obligations.Alu32SrcResults : Prop :=
  DstSrcRule .add32Src (fun a b => (a + b) % 2 ^ 32) ∧
  DstSrcRule .sub32Src (fun a b => (a % 2 ^ 32 + 2 ^ 32 - b % 2 ^ 32) % 2 ^ 32) ∧
  DstSrcRule .mul32Src (fun a b => a * b % 2 ^ 32) ∧
  DstSrcRule .or32Src (fun a b => (a ||| b) % 2 ^ 32) ∧
  DstSrcRule .and32Src (fun a b => (a &&& b) % 2 ^ 32) ∧
  DstSrcRule .xor32Src (fun a b => (a ^^^ b) % 2 ^ 32) ∧
  DstSrcRule .mov32Src (fun _ b => b % 2 ^ 32)

/-- R174 to R177, R184, R185: the 32-bit shifts of the low half (D10), by the low five bits of the second operand
(D8). -/
def Obligations.Shift32Results : Prop :=
  DstImmRule .lsh32Imm (fun a imm => a * 2 ^ (imm.toNat % 32) % 2 ^ 32) ∧
  DstSrcRule .lsh32Src (fun a b => a * 2 ^ (b % 32) % 2 ^ 32) ∧
  DstImmRule .rsh32Imm (fun a imm => a % 2 ^ 32 / 2 ^ (imm.toNat % 32)) ∧
  DstSrcRule .rsh32Src (fun a b => a % 2 ^ 32 / 2 ^ (b % 32)) ∧
  DstImmRule .arsh32Imm (fun a imm => asr 32 (a % 2 ^ 32) (imm.toNat % 32)) ∧
  DstSrcRule .arsh32Src (fun a b => asr 32 (a % 2 ^ 32) (b % 32))

/-- R168, R169, R178, R179: unsigned quotient and remainder of the low halves (D7, D10), for a divisor whose low half is
not zero. -/
def Obligations.DivMod32Results : Prop :=
  DivideImmRule .div32Imm 32 (·.toNat) (· / ·) ∧ DivideSrcRule .div32Src 32 (· / ·) ∧
  DivideImmRule .mod32Imm 32 (·.toNat) (· % ·) ∧ DivideSrcRule .mod32Src 32 (· % ·)

/-- R268: a zero divisor (D36: of the width the division uses) takes `DivideByZero` and writes nothing. -/
def Obligations.ZeroDivisorFaults : Prop :=
  ZeroImmFaults .divImm ∧ ZeroImmFaults .modImm ∧ ZeroImmFaults .div32Imm ∧ ZeroImmFaults .mod32Imm ∧
  ZeroSrcFaults .divSrc 64 ∧ ZeroSrcFaults .modSrc 64 ∧ ZeroSrcFaults .div32Src 32 ∧ ZeroSrcFaults .mod32Src 32

/-- R160 (D10): no 32-bit ALU instruction's result depends on the upper half of any register, and each leaves the upper
half of its destination zero. -/
def Obligations.Alu32DependsOnLowHalvesOnly : Prop :=
  (∀ i ∈ [Instr.add32Imm, .sub32Imm, .mul32Imm, .div32Imm, .or32Imm, .and32Imm, .lsh32Imm, .rsh32Imm, .mod32Imm,
      .xor32Imm, .mov32Imm, .arsh32Imm],
    ∀ (d : RegIdx) (imm : Imm), d ≠ frameRegister → DependsOnLowHalves (i (field d) imm) d) ∧
  (∀ i ∈ [Instr.add32Src, .sub32Src, .mul32Src, .div32Src, .or32Src, .and32Src, .lsh32Src, .rsh32Src, .mod32Src,
      .xor32Src, .mov32Src, .arsh32Src],
    ∀ d r : RegIdx, d ≠ frameRegister → DependsOnLowHalves (i (field d) (field r)) d) ∧
  (∀ d : RegIdx, d ≠ frameRegister → DependsOnLowHalves (.neg32 (field d)) d)

/-! ## Byte order -/

/-- R192 to R197: `le` keeps the low N bits and `be` reverses their bytes (host order little-endian, D11); bits 63..N
become zero (D12). -/
def Obligations.ByteOrderResults : Prop :=
  DstRule .le16 (· % 2 ^ 16) ∧ DstRule .le32 (· % 2 ^ 32) ∧ DstRule .le64 (fun a => a) ∧
  DstRule .be16 (byteReversed 2) ∧ DstRule .be32 (byteReversed 4) ∧ DstRule .be64 (byteReversed 8)

/-- R198, the corrected round trip: `beN` twice gives the low N bits, and `leN` on either side of `beN` changes nothing of
what `beN` gives. -/
def Obligations.ByteOrderRoundTrips : Prop :=
  TwoStepRule .be16 .be16 (· % 2 ^ 16) ∧ TwoStepRule .be32 .be32 (· % 2 ^ 32) ∧ TwoStepRule .be64 .be64 (fun a => a) ∧
  TwoStepRule .be16 .le16 (byteReversed 2) ∧ TwoStepRule .be32 .le32 (byteReversed 4) ∧
  TwoStepRule .be64 .le64 (byteReversed 8) ∧
  TwoStepRule .le16 .be16 (byteReversed 2) ∧ TwoStepRule .le32 .be32 (byteReversed 4) ∧
  TwoStepRule .le64 .be64 (byteReversed 8)

/-! ## Control flow -/

/-- R203: `ja` goes to `pc + 1 + signed_16(offset)` and changes nothing else. -/
def Obligations.JaJumpsRelative : Prop :=
  ∀ (offset : Offset) (s : State),
    ∃ t, exec (.ja offset) s = .next t ∧ Jumped s (s.pc + 1 + signedOf 16 offset.toNat) t

/-- R200, R204, R206, R208, R210, R212, R214, R216: the conditional jumps in IMM form, against the sign-extended `imm`
(D5), on all 64 bits, unsigned but for the `js` pair (D13). -/
def Obligations.ConditionalJumpsImm : Prop :=
  JumpImmRule .jeqImm (fun a b => a = b) ∧
  JumpImmRule .jgtImm (fun a b => a > b) ∧
  JumpImmRule .jgeImm (fun a b => a ≥ b) ∧
  JumpImmRule .jsetImm (fun a b => a &&& b ≠ 0) ∧
  JumpImmRule .jneImm (fun a b => a ≠ b) ∧
  JumpImmRule .jsgtImm (fun a b => signedOf 64 a > signedOf 64 b) ∧
  JumpImmRule .jsgeImm (fun a b => signedOf 64 a ≥ signedOf 64 b)

/-- R200, R205, R207, R209, R211, R213, R215, R217: the conditional jumps in SRC form, on all 64 bits, unsigned
but for the `js` pair (D13). -/
def Obligations.ConditionalJumpsSrc : Prop :=
  JumpSrcRule .jeqSrc (fun a b => a = b) ∧
  JumpSrcRule .jgtSrc (fun a b => a > b) ∧
  JumpSrcRule .jgeSrc (fun a b => a ≥ b) ∧
  JumpSrcRule .jsetSrc (fun a b => a &&& b ≠ 0) ∧
  JumpSrcRule .jneSrc (fun a b => a ≠ b) ∧
  JumpSrcRule .jsgtSrc (fun a b => signedOf 64 a > signedOf 64 b) ∧
  JumpSrcRule .jsgeSrc (fun a b => signedOf 64 a ≥ signedOf 64 b)

/-- R220: `call` sets `pc` to the unsigned `imm` and saves nothing (D15). -/
def Obligations.CallJumpsAbsolute : Prop :=
  ∀ (imm : Imm) (s : State), ∃ t, exec (.call imm) s = .next t ∧ Jumped s imm.toNat t

/-- R221, R276: `exit` halts, keeps the cause as it is, and leaves `pc` at itself (D22) and every register and byte as
they were; the result is R0. -/
def Obligations.ExitHalts : Prop :=
  ∀ s : State, ∃ t, exec .exit s = .next t ∧ t.control = .halted ∧ t.fault = s.fault ∧ t.pc = s.pc ∧
    RegsKept s t ∧ MemKept s t ∧ t.unsup = s.unsup ∧ t.unsupCount = s.unsupCount ∧ t.program = s.program ∧
    t.result = s.read64 0

/-- R225: `lddw` writes the zero-extended `imm` and takes one slot (D16). -/
def Obligations.LddwResult : Prop := DstImmRule .lddw (fun _ imm => imm.toNat)

/-! ## Memory -/

/-- R52 (D17): the effective address is the exact sum, and where it lies. -/
def Obligations.EffectiveAddressIsExact : Prop :=
  ∀ (b : Word) (offset : Offset), effectiveAddress b offset = b.toNat + signedOf 16 offset.toNat ∧
    -32768 ≤ effectiveAddress b offset ∧ effectiveAddress b offset ≤ 2 ^ 64 + 32766

/-- R230, R232 to R235: an admitted load writes the little-endian value (D11) of its bytes, zero-extended (D19). -/
def Obligations.LoadResults : Prop :=
  LoadRule .ldxb 1 ∧ LoadRule .ldxh 2 ∧ LoadRule .ldxw 4 ∧ LoadRule .ldxdw 8

/-- R230, R236 to R239: an admitted store of an immediate writes exactly its bytes; `stdw` stores the sign-extended `imm`
(D5), the others its low bytes (D19), least significant first (D11). -/
def Obligations.StoreImmResults : Prop :=
  StoreImmRule .stb 1 (·.toNat) ∧ StoreImmRule .sth 2 (·.toNat) ∧ StoreImmRule .stw 4 (·.toNat) ∧
  StoreImmRule .stdw 8 sextImm

/-- R230, R240 to R243: an admitted store of a register writes exactly the low bytes of `x[src]` (D19), least
significant first (D11). -/
def Obligations.StoreSrcResults : Prop :=
  StoreSrcRule .stxb 1 ∧ StoreSrcRule .stxh 2 ∧ StoreSrcRule .stxw 4 ∧ StoreSrcRule .stxdw 8

/-- R269: a load or a store whose access is not wholly inside scratch memory takes `MemOutOfBounds`: no byte and no
register changes, and the program and the base register, from which the host recomputes the address, stand as before. -/
def Obligations.AccessOutsideFaults : Prop :=
  LoadOutside .ldxb 1 ∧ LoadOutside .ldxh 2 ∧ LoadOutside .ldxw 4 ∧ LoadOutside .ldxdw 8 ∧
  StoreImmOutside .stb 1 ∧ StoreImmOutside .sth 2 ∧ StoreImmOutside .stw 4 ∧ StoreImmOutside .stdw 8 ∧
  StoreSrcOutside .stxb 1 ∧ StoreSrcOutside .stxh 2 ∧ StoreSrcOutside .stxw 4 ∧ StoreSrcOutside .stxdw 8

/-- R60: after an eight-byte write, narrower reads see the corresponding bytes of the value. -/
def Obligations.NarrowReadsSeeWideWrite : Prop :=
  ∀ (s : State) (a : Int) (v : Word), s.mem.wf → Admitted a 8 →
    ∃ t, memWrite .dword a v s = .ok t ∧ memRead .dword a t = .ok v ∧
      (∀ k : Nat, k < 8 → memRead .byte (a + k) t = .ok (BitVec.ofNat 64 (v.toNat / 2 ^ (8 * k) % 2 ^ 8))) ∧
      memRead .word a t = .ok (BitVec.ofNat 64 (v.toNat % 2 ^ 32)) ∧
      memRead .word (a + 4) t = .ok (BitVec.ofNat 64 (v.toNat / 2 ^ 32))

/-! ## Packet loads -/

/-- R250 to R258: every packet load sets `UNSUP`, counts one, advances `pc` and changes nothing else (D25). -/
def Obligations.PacketLoadsReportAndContinue : Prop :=
  PacketRule .ldabsw ∧ PacketRule .ldabsh ∧ PacketRule .ldabsb ∧ PacketRule .ldabsdw ∧
  PacketRule .ldindw ∧ PacketRule .ldindh ∧ PacketRule .ldindb ∧ PacketRule .ldinddw

/-! ## Registers, host, assembler -/

/-- R22: the four views of a register, and that a write touches no other register. -/
def Obligations.RegisterViews : Prop :=
  ∀ (s : State) (i : RegIdx) (v : Word) (h : BitVec 32),
    ((s.write64 i v).read64 i = v ∧ (s.read32 i).toNat = (s.read64 i).toNat % 2 ^ 32 ∧
      ((s.write32 i h).read64 i).toNat = h.toNat) ∧
    ∀ j, j ≠ i → (s.write64 i v).read64 j = s.read64 j ∧ (s.write32 i h).read64 j = s.read64 j

/-- R23 (D35): the two views of a register's high half, of which the write keeps the low half and every other register. -/
def Obligations.HighHalfViews : Prop :=
  ∀ (s : State) (i : RegIdx) (h : BitVec 32),
    ((s.readHi32 i).toNat = (s.read64 i).toNat / 2 ^ 32 ∧
      ((s.writeHi32 i h).read64 i).toNat = h.toNat * 2 ^ 32 + (s.read64 i).toNat % 2 ^ 32) ∧
    ∀ j, j ≠ i → (s.writeHi32 i h).read64 j = s.read64 j

/-- R38, R290, R293: what reset leaves, from any state and for any `MEM_INIT` (D21, D23, D25), the program untouched, and
that a load of a byte no store has written returns that byte of `MEM_INIT`. The reset state of the model is this one with a
free `MEM_INIT` (log entry 5). -/
def Obligations.ResetValues : Prop :=
  ∀ (memInit : Nat → Byte) (s : State),
    let t := hostReset memInit s
    (∀ i, t.read64 i = 0) ∧ t.pc = 0 ∧ t.control = .ready ∧ t.fault = none ∧ t.unsup = false ∧ t.unsupCount = 0 ∧
    t.program = s.program ∧ (∀ a, a < 128 → t.mem.readByte a = memInit a) ∧
    (∀ (d : RegIdx) (a : Nat), d ≠ frameRegister → a < 128 →
      ∃ u, exec (.ldxb (field d) (field frameRegister) (BitVec.ofNat 16 a)) t = .next u ∧
        WroteReg t d (memInit a).toNat u)

/-- R297 (D26, D27): `run` is accepted only in Ready, fixes the program and starts it, and changes nothing else; elsewhere
it changes nothing; an empty program faults with `PcOutOfBounds` on its first step. That the program stands in State is
the model's choice (log entry 1). -/
def Obligations.RunStartsOnlyFromReady : Prop :=
  (∀ (prog : List Word) (s : State), s.control = .ready → prog.length ≤ 2 ^ 32 →
    (hostRun prog s).control = .running ∧ (hostRun prog s).program = prog ∧ RegsKept s (hostRun prog s) ∧
    (hostRun prog s).mem = s.mem ∧ (hostRun prog s).pc = s.pc ∧ (hostRun prog s).fault = s.fault ∧
    (hostRun prog s).unsup = s.unsup ∧ (hostRun prog s).unsupCount = s.unsupCount) ∧
  (∀ (prog : List Word) (s : State), s.control ≠ .ready → hostRun prog s = s) ∧
  (∀ (memInit : Nat → Byte) (s : State),
    ∃ t, step (hostRun [] (hostReset memInit s)) = .next t ∧
      Faulted (hostRun [] (hostReset memInit s)) .pcOutOfBounds t)

/-- R98, R119: a program that the assembler makes holds instructions only, each naming registers R0 to R10 only, and one
word for each source line that is neither blank, a comment nor a label. What ends a line, and that a line which begins
with two semicolons is a comment whatever ends its first token, are the model's choices (DESIGN CHOICE, log entries 12 and
13). -/
def Obligations.AssembledProgramsDecode : Prop :=
  ∀ (src : List Char) (prog : List Word), assemble src = .ok prog →
    (∀ w ∈ prog, ∃ i, decode w = .ok i ∧ i.registersNamed = true) ∧
    prog.length = (sourceLines src).countP fun line =>
      match line.2 with
      | [] => false
      | first :: _ => !isComment first && (labelName? first).isNone

/-- R115, R200, R303: the assembler's label distance, encoded as a displacement, takes the machine's jump from the
referencing slot to the label's position, forward or backward. -/
def Obligations.LabelDistanceMatchesJump : Prop :=
  ∀ (position index : Nat) (s : State), s.pc = index → -32768 ≤ displacement position index →
    displacement position index ≤ 32767 →
    ∃ t, exec (.ja (BitVec.ofInt 16 (displacement position index))) s = .next t ∧ t.pc = position
end

