-- ==== Sys2Proof/Laws/State.lean ====
section
/-! SUPPORT. What each update of the state leaves in each field: one lemma per field per update, so that no later proof
unfolds a record update. -/

namespace Sys2Proof.Machine

section
variable (s : State)

@[simp] theorem State.write64_regs (i : RegIdx) (v : Word) : (s.write64 i v).regs = s.regs.set i v := rfl
@[simp] theorem State.write64_pc (i : RegIdx) (v : Word) : (s.write64 i v).pc = s.pc := rfl
@[simp] theorem State.write64_control (i : RegIdx) (v : Word) : (s.write64 i v).control = s.control := rfl
@[simp] theorem State.write64_fault (i : RegIdx) (v : Word) : (s.write64 i v).fault = s.fault := rfl
@[simp] theorem State.write64_unsup (i : RegIdx) (v : Word) : (s.write64 i v).unsup = s.unsup := rfl
@[simp] theorem State.write64_unsupCount (i : RegIdx) (v : Word) : (s.write64 i v).unsupCount = s.unsupCount := rfl
@[simp] theorem State.write64_mem (i : RegIdx) (v : Word) : (s.write64 i v).mem = s.mem := rfl
@[simp] theorem State.write64_program (i : RegIdx) (v : Word) : (s.write64 i v).program = s.program := rfl

@[simp] theorem State.write32_regs (i : RegIdx) (v : BitVec 32) : (s.write32 i v).regs = s.regs.set i (v.setWidth 64) := rfl
@[simp] theorem State.write32_pc (i : RegIdx) (v : BitVec 32) : (s.write32 i v).pc = s.pc := rfl
@[simp] theorem State.write32_control (i : RegIdx) (v : BitVec 32) : (s.write32 i v).control = s.control := rfl
@[simp] theorem State.write32_fault (i : RegIdx) (v : BitVec 32) : (s.write32 i v).fault = s.fault := rfl
@[simp] theorem State.write32_unsup (i : RegIdx) (v : BitVec 32) : (s.write32 i v).unsup = s.unsup := rfl
@[simp] theorem State.write32_unsupCount (i : RegIdx) (v : BitVec 32) : (s.write32 i v).unsupCount = s.unsupCount := rfl
@[simp] theorem State.write32_mem (i : RegIdx) (v : BitVec 32) : (s.write32 i v).mem = s.mem := rfl
@[simp] theorem State.write32_program (i : RegIdx) (v : BitVec 32) : (s.write32 i v).program = s.program := rfl

@[simp] theorem State.advance_regs : (s.advance).regs = s.regs := rfl
@[simp] theorem State.advance_pc : (s.advance).pc = s.pc + 1 := rfl
@[simp] theorem State.advance_control : (s.advance).control = s.control := rfl
@[simp] theorem State.advance_fault : (s.advance).fault = s.fault := rfl
@[simp] theorem State.advance_unsup : (s.advance).unsup = s.unsup := rfl
@[simp] theorem State.advance_unsupCount : (s.advance).unsupCount = s.unsupCount := rfl
@[simp] theorem State.advance_mem : (s.advance).mem = s.mem := rfl
@[simp] theorem State.advance_program : (s.advance).program = s.program := rfl

@[simp] theorem State.goto_regs (k : Int) : (s.goto k).regs = s.regs := rfl
@[simp] theorem State.goto_pc (k : Int) : (s.goto k).pc = k := rfl
@[simp] theorem State.goto_control (k : Int) : (s.goto k).control = s.control := rfl
@[simp] theorem State.goto_fault (k : Int) : (s.goto k).fault = s.fault := rfl
@[simp] theorem State.goto_unsup (k : Int) : (s.goto k).unsup = s.unsup := rfl
@[simp] theorem State.goto_unsupCount (k : Int) : (s.goto k).unsupCount = s.unsupCount := rfl
@[simp] theorem State.goto_mem (k : Int) : (s.goto k).mem = s.mem := rfl
@[simp] theorem State.goto_program (k : Int) : (s.goto k).program = s.program := rfl

@[simp] theorem takeFault_regs (c : Cause) : (takeFault c s).regs = s.regs := rfl
@[simp] theorem takeFault_pc (c : Cause) : (takeFault c s).pc = s.pc := rfl
@[simp] theorem takeFault_control (c : Cause) : (takeFault c s).control = .halted := rfl
@[simp] theorem takeFault_fault (c : Cause) : (takeFault c s).fault = some c := rfl
@[simp] theorem takeFault_unsup (c : Cause) : (takeFault c s).unsup = s.unsup := rfl
@[simp] theorem takeFault_unsupCount (c : Cause) : (takeFault c s).unsupCount = s.unsupCount := rfl
@[simp] theorem takeFault_mem (c : Cause) : (takeFault c s).mem = s.mem := rfl
@[simp] theorem takeFault_program (c : Cause) : (takeFault c s).program = s.program := rfl

@[simp] theorem State.halt_regs : (s.halt).regs = s.regs := rfl
@[simp] theorem State.halt_pc : (s.halt).pc = s.pc := rfl
@[simp] theorem State.halt_control : (s.halt).control = .halted := rfl
@[simp] theorem State.halt_fault : (s.halt).fault = s.fault := rfl
@[simp] theorem State.halt_unsup : (s.halt).unsup = s.unsup := rfl
@[simp] theorem State.halt_unsupCount : (s.halt).unsupCount = s.unsupCount := rfl
@[simp] theorem State.halt_mem : (s.halt).mem = s.mem := rfl
@[simp] theorem State.halt_program : (s.halt).program = s.program := rfl

@[simp] theorem State.reportUnsupported_regs : (s.reportUnsupported).regs = s.regs := rfl
@[simp] theorem State.reportUnsupported_pc : (s.reportUnsupported).pc = s.pc := rfl
@[simp] theorem State.reportUnsupported_control : (s.reportUnsupported).control = s.control := rfl
@[simp] theorem State.reportUnsupported_fault : (s.reportUnsupported).fault = s.fault := rfl
@[simp] theorem State.reportUnsupported_unsup : (s.reportUnsupported).unsup = true := rfl
@[simp] theorem State.reportUnsupported_unsupCount : (s.reportUnsupported).unsupCount = s.unsupCount + 1 := rfl
@[simp] theorem State.reportUnsupported_mem : (s.reportUnsupported).mem = s.mem := rfl
@[simp] theorem State.reportUnsupported_program : (s.reportUnsupported).program = s.program := rfl

end

/-- Reading a register after writing one (R22). -/
theorem State.read64_write64 (s : State) (i j : RegIdx) (v : Word) :
    (s.write64 i v).read64 j = if i = j then v else s.read64 j := by
  simp only [State.read64, State.write64, Fin.getElem_fin, Vector.getElem_set, Fin.ext_iff]

@[simp] theorem State.read64_write64_same (s : State) (i : RegIdx) (v : Word) : (s.write64 i v).read64 i = v := by
  simp [State.read64_write64]

theorem State.read64_write64_other (s : State) {i j : RegIdx} (v : Word) (h : j ≠ i) :
    (s.write64 i v).read64 j = s.read64 j := by
  simp [State.read64_write64, h.symm]

@[simp] theorem State.read64_advance (s : State) (i : RegIdx) : s.advance.read64 i = s.read64 i := rfl

@[simp] theorem State.read64_goto (s : State) (k : Int) (i : RegIdx) : (s.goto k).read64 i = s.read64 i := rfl

@[simp] theorem State.read64_takeFault (c : Cause) (s : State) (i : RegIdx) :
    (takeFault c s).read64 i = s.read64 i := rfl

@[simp] theorem State.read64_halt (s : State) (i : RegIdx) : s.halt.read64 i = s.read64 i := rfl

@[simp] theorem State.read64_reportUnsupported (s : State) (i : RegIdx) :
    s.reportUnsupported.read64 i = s.read64 i := rfl

end Sys2Proof.Machine
end

