-- ==== Sys2Proof/Laws/Memory.lean ====
section
/-! SUPPORT. Scratch memory: every operation keeps the canonical form, reset's memory has it, and the two basic laws of a
byte (a read after a write to the same place, a write leaves every other place alone). -/

namespace Sys2Proof.Machine

/-- A write changes no address of the list. -/
theorem Memory.writeByte_addresses (m : Memory) (a : Nat) (b : Byte) :
    (m.writeByte a b).map Prod.fst = m.map Prod.fst := by
  simp only [Memory.writeByte, List.map_map]
  refine List.map_congr_left fun cell _ => ?_
  by_cases h : cell.1 = a <;> simp [h]

theorem Memory.wf_writeByte {m : Memory} (h : m.wf) (a : Nat) (b : Byte) : (m.writeByte a b).wf := by
  rw [Memory.wf, Memory.writeByte_addresses]
  exact h

theorem Memory.wf_writeLE {m : Memory} (h : m.wf) (a : Nat) (v : Word) (n : Nat) : (m.writeLE a v n).wf := by
  induction n generalizing m a v with
  | zero => exact h
  | succ n ih => exact ih (Memory.wf_writeByte h _ _) _ _

theorem Memory.wf_ofBytes (byteAt : Nat → Byte) : (Memory.ofBytes byteAt).wf := by
  simp [Memory.wf, Memory.ofBytes, List.map_map, Function.comp_def]

/-- Scratch memory right after reset is in canonical form. -/
theorem State.reset_mem_wf : State.reset.mem.wf := Memory.wf_ofBytes _

/-- In canonical form the listed addresses are those of scratch memory (R51). -/
theorem Memory.mem_addresses_iff {m : Memory} (h : m.wf) (a : Nat) :
    a ∈ m.map Prod.fst ↔ Config.memBase ≤ a ∧ a < Config.memBase + Config.memSize := by
  rw [h]
  simp only [List.mem_map, List.mem_range]
  constructor
  · rintro ⟨k, hk, rfl⟩
    omega
  · intro ha
    exact ⟨a - Config.memBase, by omega, by omega⟩

theorem Memory.lookup_writeByte (m : Memory) (a c : Nat) (b : Byte) :
    (m.writeByte a b).lookup c = if c = a then (m.lookup c).map fun _ => b else m.lookup c := by
  induction m with
  | nil => simp [Memory.writeByte]
  | cons cell m ih =>
    obtain ⟨x, y⟩ := cell
    simp only [Memory.writeByte, List.map_cons] at ih ⊢
    by_cases hx : x = a
    · subst hx
      rw [if_pos rfl, List.lookup_cons, List.lookup_cons, ih]
      by_cases hc : c = x
      · simp [hc]
      · have : (c == x) = false := by simpa using hc
        simp [hc, this]
    · rw [if_neg hx, List.lookup_cons, List.lookup_cons, ih]
      by_cases hc : c = x
      · subst hc
        simp [hx]
      · have : (c == x) = false := by simpa using hc
        simp [this]

/-- A write leaves every other byte alone. -/
theorem Memory.readByte_writeByte_other (m : Memory) {a c : Nat} (b : Byte) (h : c ≠ a) :
    (m.writeByte a b).readByte c = m.readByte c := by
  simp [Memory.readByte, Memory.lookup_writeByte, h]

/-- A listed byte reads as what was written to it. -/
theorem Memory.readByte_writeByte_same {m : Memory} {a : Nat} (b : Byte) (h : a ∈ m.map Prod.fst) :
    (m.writeByte a b).readByte a = b := by
  have : (m.lookup a).isSome := by
    obtain ⟨cell, hm, rfl⟩ := List.mem_map.1 h
    rw [List.lookup_isSome_iff]
    exact ⟨cell, hm, by simp⟩
  obtain ⟨y, hy⟩ := Option.isSome_iff_exists.1 this
  simp [Memory.readByte, Memory.lookup_writeByte, hy]

/-- A multi-byte write leaves every byte outside it alone. -/
theorem Memory.readByte_writeLE_other (m : Memory) (a : Nat) (v : Word) (n c : Nat) (h : c < a ∨ a + n ≤ c) :
    (m.writeLE a v n).readByte c = m.readByte c := by
  induction n generalizing m a v with
  | zero => rfl
  | succ n ih => rw [Memory.writeLE, ih _ _ _ (by omega), Memory.readByte_writeByte_other _ _ (by omega)]

end Sys2Proof.Machine
end

