-- ==== Sys2Proof/Laws/Ops.lean ====
section
/-! SUPPORT. One lemma for each shared operation that says once what it can do: what holds if it answers, and on which
operands it raises which cause. Later proofs cite these instead of unfolding the operations. -/

namespace Sys2Proof.Machine

/-! ## Outcomes -/

/-- An instruction's rule always settles: its state, or fault entry on the state before it (R270). -/
theorem settle_next_iff (s t : State) (r : Except Cause State) :
    settle s r = .next t ↔ r = .ok t ∨ ∃ c, r = .error c ∧ t = takeFault c s := by
  cases r <;> simp [settle, eq_comm]

theorem settle_completes (s : State) (r : Except Cause State) : ∃ t, settle s r = .next t := by
  cases r <;> exact ⟨_, rfl⟩

@[simp] theorem settle_ok (s t : State) : settle s (.ok t) = .next t := rfl

@[simp] theorem settle_error (s : State) (c : Cause) : settle s (.error c) = .next (takeFault c s) := rfl

/-- A sequence of raises answers exactly where its two parts do. -/
theorem bind_eq_ok_iff {ε α β : Type} (x : Except ε α) (f : α → Except ε β) (b : β) :
    x >>= f = .ok b ↔ ∃ a, x = .ok a ∧ f a = .ok b := by
  cases x <;> simp [bind, Except.bind]

/-- A sequence of raises raises where its first part does, or its second. -/
theorem bind_eq_error_iff {ε α β : Type} (x : Except ε α) (f : α → Except ε β) (c : ε) :
    x >>= f = .error c ↔ x = .error c ∨ ∃ a, x = .ok a ∧ f a = .error c := by
  cases x <;> simp [bind, Except.bind]

/-! ## The register checks of the prologue -/

theorem usedReg_eq_ok_iff (f : RegField) (i : RegIdx) : usedReg f = .ok i ↔ f.toNat = i.val := by
  unfold usedReg
  split
  · simp [Fin.ext_iff]
  · simp only [reduceCtorEq, false_iff]
    omega

theorem usedReg_eq_error_iff (f : RegField) (c : Cause) :
    usedReg f = .error c ↔ 10 < f.toNat ∧ c = .invalidRegister := by
  unfold usedReg
  split
  · simp only [reduceCtorEq, false_iff]
    omega
  · simp only [Except.error.injEq]
    constructor
    · exact fun h => ⟨by omega, h.symm⟩
    · exact fun h => h.2.symm

/-- The field that holds a register's number names that register (R25). -/
theorem usedReg_ofNat (i : RegIdx) : usedReg (BitVec.ofNat 4 i.val) = .ok i := by
  rw [usedReg_eq_ok_iff, BitVec.toNat_ofNat]
  omega

theorem writable_eq_ok_iff (d e : RegIdx) : writable d = .ok e ↔ d ≠ frameRegister ∧ d = e := by
  unfold writable
  split <;> simp [*]

theorem writable_eq_error_iff (d : RegIdx) (c : Cause) :
    writable d = .error c ↔ d = frameRegister ∧ c = .readOnlyRegister := by
  unfold writable
  split <;> simp [*, eq_comm]

theorem writesDst_eq_ok_iff (f : RegField) (d : RegIdx) :
    writesDst f = .ok d ↔ f.toNat = d.val ∧ d ≠ frameRegister := by
  simp only [writesDst, bind_eq_ok_iff, usedReg_eq_ok_iff, writable_eq_ok_iff]
  constructor
  · rintro ⟨a, ha, hn, rfl⟩
    exact ⟨ha, hn⟩
  · exact fun h => ⟨d, h.1, h.2, rfl⟩

theorem writesDstReadsSrc_eq_ok_iff (f g : RegField) (d r : RegIdx) :
    writesDstReadsSrc f g = .ok (d, r) ↔ f.toNat = d.val ∧ g.toNat = r.val ∧ d ≠ frameRegister := by
  simp only [writesDstReadsSrc, bind_eq_ok_iff, usedReg_eq_ok_iff, writable_eq_ok_iff, pure, Except.pure,
    Except.ok.injEq, Prod.mk.injEq]
  constructor
  · rintro ⟨a, ha, b, hb, c, ⟨hn, rfl⟩, rfl, rfl⟩
    exact ⟨ha, hb, hn⟩
  · exact fun h => ⟨d, h.1, r, h.2.1, d, ⟨h.2.2, rfl⟩, rfl, rfl⟩

theorem readsDstSrc_eq_ok_iff (f g : RegField) (d r : RegIdx) :
    readsDstSrc f g = .ok (d, r) ↔ f.toNat = d.val ∧ g.toNat = r.val := by
  simp only [readsDstSrc, bind_eq_ok_iff, usedReg_eq_ok_iff, pure, Except.pure, Except.ok.injEq, Prod.mk.injEq]
  constructor
  · rintro ⟨a, ha, b, hb, rfl, rfl⟩
    exact ⟨ha, hb⟩
  · exact fun h => ⟨d, h.1, r, h.2, rfl, rfl⟩

/-! ## The forms -/

theorem alu64Imm_ok {op : Word → Word → Except Cause Word} {dst : RegField} {imm : Imm} {s t : State}
    (h : alu64Imm op dst imm s = .ok t) :
    ∃ d v, writesDst dst = .ok d ∧ op (s.read64 d) (ext64 imm) = .ok v ∧ t = (s.write64 d v).advance := by
  simp only [alu64Imm, bind_eq_ok_iff, pure, Except.pure, Except.ok.injEq] at h
  obtain ⟨d, hd, v, hv, rfl⟩ := h
  exact ⟨d, v, hd, hv, rfl⟩

theorem alu64Src_ok {op : Word → Word → Except Cause Word} {dst src : RegField} {s t : State}
    (h : alu64Src op dst src s = .ok t) :
    ∃ d r v, writesDstReadsSrc dst src = .ok (d, r) ∧ op (s.read64 d) (s.read64 r) = .ok v ∧
      t = (s.write64 d v).advance := by
  simp only [alu64Src, bind_eq_ok_iff, pure, Except.pure, Except.ok.injEq] at h
  obtain ⟨⟨d, r⟩, hd, v, hv, rfl⟩ := h
  exact ⟨d, r, v, hd, hv, rfl⟩

theorem shift64Imm_ok {op : Word → Nat → Word} {dst : RegField} {imm : Imm} {s t : State}
    (h : shift64Imm op dst imm s = .ok t) :
    ∃ d, writesDst dst = .ok d ∧ t = (s.write64 d (op (s.read64 d) (shiftAmount64 (zext64 imm)))).advance := by
  simp only [shift64Imm, bind_eq_ok_iff, pure, Except.pure, Except.ok.injEq] at h
  obtain ⟨d, hd, rfl⟩ := h
  exact ⟨d, hd, rfl⟩

theorem shift64Src_ok {op : Word → Nat → Word} {dst src : RegField} {s t : State}
    (h : shift64Src op dst src s = .ok t) :
    ∃ d r, writesDstReadsSrc dst src = .ok (d, r) ∧
      t = (s.write64 d (op (s.read64 d) (shiftAmount64 (s.read64 r)))).advance := by
  simp only [shift64Src, bind_eq_ok_iff, pure, Except.pure, Except.ok.injEq] at h
  obtain ⟨⟨d, r⟩, hd, rfl⟩ := h
  exact ⟨d, r, hd, rfl⟩

theorem unary64_ok {op : Word → Word} {dst : RegField} {s t : State} (h : unary64 op dst s = .ok t) :
    ∃ d, writesDst dst = .ok d ∧ t = (s.write64 d (op (s.read64 d))).advance := by
  simp only [unary64, bind_eq_ok_iff, pure, Except.pure, Except.ok.injEq] at h
  obtain ⟨d, hd, rfl⟩ := h
  exact ⟨d, hd, rfl⟩

theorem alu32Imm_ok {op : BitVec 32 → BitVec 32 → Except Cause (BitVec 32)} {dst : RegField} {imm : Imm} {s t : State}
    (h : alu32Imm op dst imm s = .ok t) :
    ∃ d v, writesDst dst = .ok d ∧ op (s.read32 d) imm = .ok v ∧ t = (s.write32 d v).advance := by
  simp only [alu32Imm, bind_eq_ok_iff, pure, Except.pure, Except.ok.injEq] at h
  obtain ⟨d, hd, v, hv, rfl⟩ := h
  exact ⟨d, v, hd, hv, rfl⟩

theorem alu32Src_ok {op : BitVec 32 → BitVec 32 → Except Cause (BitVec 32)} {dst src : RegField} {s t : State}
    (h : alu32Src op dst src s = .ok t) :
    ∃ d r v, writesDstReadsSrc dst src = .ok (d, r) ∧ op (s.read32 d) (s.read32 r) = .ok v ∧
      t = (s.write32 d v).advance := by
  simp only [alu32Src, bind_eq_ok_iff, pure, Except.pure, Except.ok.injEq] at h
  obtain ⟨⟨d, r⟩, hd, v, hv, rfl⟩ := h
  exact ⟨d, r, v, hd, hv, rfl⟩

theorem shift32Imm_ok {op : BitVec 32 → Nat → BitVec 32} {dst : RegField} {imm : Imm} {s t : State}
    (h : shift32Imm op dst imm s = .ok t) :
    ∃ d, writesDst dst = .ok d ∧ t = (s.write32 d (op (s.read32 d) (shiftAmount32 imm))).advance := by
  simp only [shift32Imm, bind_eq_ok_iff, pure, Except.pure, Except.ok.injEq] at h
  obtain ⟨d, hd, rfl⟩ := h
  exact ⟨d, hd, rfl⟩

theorem shift32Src_ok {op : BitVec 32 → Nat → BitVec 32} {dst src : RegField} {s t : State}
    (h : shift32Src op dst src s = .ok t) :
    ∃ d r, writesDstReadsSrc dst src = .ok (d, r) ∧
      t = (s.write32 d (op (s.read32 d) (shiftAmount32 (s.read32 r)))).advance := by
  simp only [shift32Src, bind_eq_ok_iff, pure, Except.pure, Except.ok.injEq] at h
  obtain ⟨⟨d, r⟩, hd, rfl⟩ := h
  exact ⟨d, r, hd, rfl⟩

theorem unary32_ok {op : BitVec 32 → BitVec 32} {dst : RegField} {s t : State} (h : unary32 op dst s = .ok t) :
    ∃ d, writesDst dst = .ok d ∧ t = (s.write32 d (op (s.read32 d))).advance := by
  simp only [unary32, bind_eq_ok_iff, pure, Except.pure, Except.ok.injEq] at h
  obtain ⟨d, hd, rfl⟩ := h
  exact ⟨d, hd, rfl⟩

/-- A branch changes `pc` alone. -/
theorem State.branch_eq (s : State) (taken : Bool) (offset : Offset) :
    s.branch taken offset = s.goto (if taken then s.jumpTarget offset else s.pc + 1) := by
  cases taken <;> rfl

theorem jumpImm_ok {cond : Word → Word → Bool} {dst : RegField} {imm : Imm} {offset : Offset} {s t : State}
    (h : jumpImm cond dst imm offset s = .ok t) :
    ∃ d, usedReg dst = .ok d ∧ t = s.branch (cond (s.read64 d) (ext64 imm)) offset := by
  simp only [jumpImm, bind_eq_ok_iff, pure, Except.pure, Except.ok.injEq] at h
  obtain ⟨d, hd, rfl⟩ := h
  exact ⟨d, hd, rfl⟩

theorem jumpSrc_ok {cond : Word → Word → Bool} {dst src : RegField} {offset : Offset} {s t : State}
    (h : jumpSrc cond dst src offset s = .ok t) :
    ∃ d r, readsDstSrc dst src = .ok (d, r) ∧ t = s.branch (cond (s.read64 d) (s.read64 r)) offset := by
  simp only [jumpSrc, bind_eq_ok_iff, pure, Except.pure, Except.ok.injEq] at h
  obtain ⟨⟨d, r⟩, hd, rfl⟩ := h
  exact ⟨d, r, hd, rfl⟩

theorem loadImmediate_ok {dst : RegField} {imm : Imm} {s t : State} (h : loadImmediate dst imm s = .ok t) :
    ∃ d, writesDst dst = .ok d ∧ t = (s.write64 d (zext64 imm)).advance := by
  simp only [loadImmediate, bind_eq_ok_iff, pure, Except.pure, Except.ok.injEq] at h
  obtain ⟨d, hd, rfl⟩ := h
  exact ⟨d, hd, rfl⟩

theorem loadReg_ok {w : Width} {dst src : RegField} {offset : Offset} {s t : State}
    (h : loadReg w dst src offset s = .ok t) :
    ∃ d base v, writesDstReadsSrc dst src = .ok (d, base) ∧
      memRead w (effectiveAddress (s.read64 base) offset) s = .ok v ∧ t = (s.write64 d v).advance := by
  simp only [loadReg, bind_eq_ok_iff, pure, Except.pure, Except.ok.injEq] at h
  obtain ⟨⟨d, base⟩, hd, v, hv, rfl⟩ := h
  exact ⟨d, base, v, hd, hv, rfl⟩

theorem storeImm_ok {w : Width} {v : Word} {dst : RegField} {offset : Offset} {s t : State}
    (h : storeImm w v dst offset s = .ok t) :
    ∃ base u, usedReg dst = .ok base ∧ memWrite w (effectiveAddress (s.read64 base) offset) v s = .ok u ∧
      t = u.advance := by
  simp only [storeImm, bind_eq_ok_iff, pure, Except.pure, Except.ok.injEq] at h
  obtain ⟨base, hb, u, hu, rfl⟩ := h
  exact ⟨base, u, hb, hu, rfl⟩

theorem storeReg_ok {w : Width} {dst src : RegField} {offset : Offset} {s t : State}
    (h : storeReg w dst src offset s = .ok t) :
    ∃ base r u, readsDstSrc dst src = .ok (base, r) ∧
      memWrite w (effectiveAddress (s.read64 base) offset) (s.read64 r) s = .ok u ∧ t = u.advance := by
  simp only [storeReg, bind_eq_ok_iff, pure, Except.pure, Except.ok.injEq] at h
  obtain ⟨⟨base, r⟩, hb, u, hu, rfl⟩ := h
  exact ⟨base, r, u, hb, hu, rfl⟩

/-! ## Memory accesses and fetch -/

theorem inBounds_iff (ea : Int) (n : Nat) : inBounds ea n = true ↔ 0 ≤ ea ∧ ea + n ≤ 128 := by
  simp [inBounds, Config.memBase, Config.memSize, Config.memSlots]

theorem memRead_eq_ok_iff (w : Width) (ea : Int) (s : State) (v : Word) :
    memRead w ea s = .ok v ↔
      (0 ≤ ea ∧ ea + w.bytes ≤ 128) ∧ v = BitVec.ofNat 64 (s.mem.readLE ea.toNat w.bytes) := by
  simp only [memRead, ← inBounds_iff]
  split <;> simp [*, eq_comm]

theorem memRead_eq_error_iff (w : Width) (ea : Int) (s : State) (c : Cause) :
    memRead w ea s = .error c ↔ ¬ (0 ≤ ea ∧ ea + w.bytes ≤ 128) ∧ c = .memOutOfBounds := by
  simp only [memRead, ← inBounds_iff]
  split <;> simp [*, eq_comm]

theorem memWrite_eq_ok_iff (w : Width) (ea : Int) (v : Word) (s t : State) :
    memWrite w ea v s = .ok t ↔
      (0 ≤ ea ∧ ea + w.bytes ≤ 128) ∧ t = { s with mem := s.mem.writeLE ea.toNat v w.bytes } := by
  simp only [memWrite, ← inBounds_iff]
  split <;> simp [*, eq_comm]

theorem memWrite_eq_error_iff (w : Width) (ea : Int) (v : Word) (s : State) (c : Cause) :
    memWrite w ea v s = .error c ↔ ¬ (0 ≤ ea ∧ ea + w.bytes ≤ 128) ∧ c = .memOutOfBounds := by
  simp only [memWrite, ← inBounds_iff]
  split <;> simp [*, eq_comm]

theorem fetch_eq_ok_iff (s : State) (w : Word) :
    fetch s = .ok w ↔ 0 ≤ s.pc ∧ s.program[s.pc.toNat]? = some w := by
  unfold fetch
  split
  · simp only [reduceCtorEq, false_iff]
    omega
  · split
    · simp [*]
      omega
    · simp [*]

theorem fetch_eq_error_iff (s : State) (c : Cause) :
    fetch s = .error c ↔ ¬ (0 ≤ s.pc ∧ s.pc < s.program.length) ∧ c = .pcOutOfBounds := by
  unfold fetch
  split
  · simp only [Except.error.injEq]
    constructor
    · exact fun h => ⟨by omega, h.symm⟩
    · exact fun h => h.2.symm
  · split
    · rename_i w hw
      have := (List.getElem?_eq_some_iff.1 hw).1
      simp only [reduceCtorEq, false_iff]
      omega
    · rename_i hn
      have := List.getElem?_eq_none_iff.1 hn
      simp only [Except.error.injEq]
      constructor
      · exact fun h => ⟨by omega, h.symm⟩
      · exact fun h => h.2.symm

end Sys2Proof.Machine
end

