-- ==== Sys2Proof/Laws/Assembler.lean ====
section
/-! SUPPORT. What the assembler's memory operand can do: what holds where it answers, and that a refusal names a token
that is not empty, on the operand's own line (R100, R116). -/

namespace Sys2Proof.Machine

theorem bracketedRegister_ok {line : Nat} {t : Token} {r : RegField} (h : bracketedRegister line t = .ok r) :
    ∃ reg, t = '[' :: reg ∧ registerOperand line reg = .ok r := by
  unfold bracketedRegister at h
  split at h
  · exact ⟨_, rfl, h⟩
  · simp at h

theorem bracketedLiteral_ok {line : Nat} {t : Token} {off : Offset} (h : bracketedLiteral line t = .ok off) :
    ∃ lit n, t = lit ++ [']'] ∧ literalOperand line 0xffff lit = .ok n ∧ off = BitVec.ofNat 16 n := by
  unfold bracketedLiteral at h
  split at h
  · rename_i c lit ht
    cases hl : literalOperand line 0xffff (c :: lit).reverse with
    | error e =>
      rw [hl] at h
      simp [Except.map] at h
    | ok n =>
      rw [hl] at h
      refine ⟨_, n, ?_, hl, by simpa [Except.map] using h.symm⟩
      simpa using congrArg List.reverse ht
  · simp at h

/-- A memory operand that is accepted is `[rN`, `+`, `#offset]` (R100). -/
theorem memoryOperand_ok {line : Nat} {opening plus closing : Token} {base : RegField} {off : Offset}
    (h : memoryOperand line opening plus closing = .ok (base, off)) :
    ∃ reg lit n, opening = '[' :: reg ∧ plus = ['+'] ∧ closing = lit ++ [']'] ∧
      registerOperand line reg = .ok base ∧ literalOperand line 0xffff lit = .ok n ∧ off = BitVec.ofNat 16 n := by
  unfold memoryOperand at h
  obtain ⟨r, hr, h⟩ := (bind_eq_ok_iff _ _ _).1 h
  split at h
  · simp at h
  · rename_i hp
    obtain ⟨o, ho, h⟩ := (bind_eq_ok_iff _ _ _).1 h
    simp only [pure, Except.pure, Except.ok.injEq, Prod.mk.injEq] at h
    obtain ⟨rfl, rfl⟩ := h
    obtain ⟨reg, rfl, hreg⟩ := bracketedRegister_ok hr
    obtain ⟨lit, n, rfl, hlit, rfl⟩ := bracketedLiteral_ok ho
    exact ⟨reg, lit, n, rfl, not_not.1 hp, rfl, hreg, hlit, rfl⟩

theorem registerOperand_error {line : Nat} {t : Token} {e : AssemblyError} (h : registerOperand line t = .error e) :
    e.line = line ∧ e.token = t := by
  unfold registerOperand at h
  split at h
  · simp at h
  · cases h
    exact ⟨rfl, rfl⟩

theorem literalOperand_error {line max : Nat} {t : Token} {e : AssemblyError}
    (h : literalOperand line max t = .error e) : e.line = line ∧ e.token = t := by
  unfold literalOperand at h
  split at h
  · split at h
    · simp at h
    · cases h
      exact ⟨rfl, rfl⟩
  · cases h
    exact ⟨rfl, rfl⟩

/-- A memory operand that is refused is reported by its line and a token that is not empty (R116). -/
theorem memoryOperand_error {line : Nat} {opening plus closing : Token} {e : AssemblyError}
    (ho : opening ≠ []) (hp : plus ≠ []) (hc : closing ≠ []) (h : memoryOperand line opening plus closing = .error e) :
    e.line = line ∧ e.token ≠ [] := by
  unfold memoryOperand at h
  rcases (bind_eq_error_iff _ _ _).1 h with h | ⟨r, -, h⟩
  · unfold bracketedRegister at h
    split at h
    · simp [registerOperand_error h]
    · cases h
      exact ⟨rfl, ho⟩
  · split at h
    · cases h
      exact ⟨rfl, hp⟩
    · rcases (bind_eq_error_iff _ _ _).1 h with h | ⟨o, -, h⟩
      · unfold bracketedLiteral at h
        split at h
        · rename_i c lit _
          cases hl : literalOperand line 0xffff (c :: lit).reverse with
          | ok n =>
            rw [hl] at h
            simp [Except.map] at h
          | error e' =>
            rw [hl] at h
            obtain rfl : e' = e := by simpa [Except.map] using h
            simp [literalOperand_error hl]
        · cases h
          exact ⟨rfl, hc⟩
      · simp [pure, Except.pure] at h

end Sys2Proof.Machine
end

