-- ==== Sys2Proof/Laws/Step.lean ====
section
/-! SUPPORT. What one step can do, said once. -/

namespace Sys2Proof.Machine

/-- A step that answers: the machine was Running, and it took `PcOutOfBounds`, took `IllegalInstruction`, or ran the
instruction that the fetched word decodes to (R262). -/
theorem step_next {s t : State} (h : step s = .next t) :
    s.control = .running ∧
      ((∃ c, fetch s = .error c ∧ t = takeFault c s) ∨
       (∃ w e, fetch s = .ok w ∧ decode w = .error e ∧ t = takeFault .illegalInstruction s) ∨
       (∃ w i, fetch s = .ok w ∧ decode w = .ok i ∧ exec i s = .next t)) := by
  unfold step at h
  split at h
  · simp at h
  · simp at h
  · rename_i hc
    refine ⟨hc, ?_⟩
    split at h
    · rename_i c hf
      exact .inl ⟨c, hf, by simpa using h.symm⟩
    · rename_i w hf
      split at h
      · rename_i e hd
        exact .inr (.inl ⟨w, e, hf, hd, by simpa using h.symm⟩)
      · rename_i i hd
        exact .inr (.inr ⟨w, i, hf, hd, h⟩)

end Sys2Proof.Machine
end

