-- ==== Sys2Proof/Laws/PerInstr.lean ====
section
/-! SUPPORT. Facts about every instruction as syntax, one lemma per constructor. -/

namespace Sys2Proof.Laws

namespace LegalOpcode

/-- The instruction's opcode byte is one of the 90 legal bytes of R89. -/
def Statement (i : Instr) : Prop := Machine.legalOpcodes.contains i.opcode = true

theorem addImm (dst : RegField) (imm : Imm) : Statement (.addImm dst imm) := rfl

theorem addSrc (dst : RegField) (src : RegField) : Statement (.addSrc dst src) := rfl

theorem subImm (dst : RegField) (imm : Imm) : Statement (.subImm dst imm) := rfl

theorem subSrc (dst : RegField) (src : RegField) : Statement (.subSrc dst src) := rfl

theorem mulImm (dst : RegField) (imm : Imm) : Statement (.mulImm dst imm) := rfl

theorem mulSrc (dst : RegField) (src : RegField) : Statement (.mulSrc dst src) := rfl

theorem divImm (dst : RegField) (imm : Imm) : Statement (.divImm dst imm) := rfl

theorem divSrc (dst : RegField) (src : RegField) : Statement (.divSrc dst src) := rfl

theorem orImm (dst : RegField) (imm : Imm) : Statement (.orImm dst imm) := rfl

theorem orSrc (dst : RegField) (src : RegField) : Statement (.orSrc dst src) := rfl

theorem andImm (dst : RegField) (imm : Imm) : Statement (.andImm dst imm) := rfl

theorem andSrc (dst : RegField) (src : RegField) : Statement (.andSrc dst src) := rfl

theorem lshImm (dst : RegField) (imm : Imm) : Statement (.lshImm dst imm) := rfl

theorem lshSrc (dst : RegField) (src : RegField) : Statement (.lshSrc dst src) := rfl

theorem rshImm (dst : RegField) (imm : Imm) : Statement (.rshImm dst imm) := rfl

theorem rshSrc (dst : RegField) (src : RegField) : Statement (.rshSrc dst src) := rfl

theorem modImm (dst : RegField) (imm : Imm) : Statement (.modImm dst imm) := rfl

theorem modSrc (dst : RegField) (src : RegField) : Statement (.modSrc dst src) := rfl

theorem xorImm (dst : RegField) (imm : Imm) : Statement (.xorImm dst imm) := rfl

theorem xorSrc (dst : RegField) (src : RegField) : Statement (.xorSrc dst src) := rfl

theorem movImm (dst : RegField) (imm : Imm) : Statement (.movImm dst imm) := rfl

theorem movSrc (dst : RegField) (src : RegField) : Statement (.movSrc dst src) := rfl

theorem arshImm (dst : RegField) (imm : Imm) : Statement (.arshImm dst imm) := rfl

theorem arshSrc (dst : RegField) (src : RegField) : Statement (.arshSrc dst src) := rfl

theorem neg (dst : RegField) : Statement (.neg dst) := rfl

theorem add32Imm (dst : RegField) (imm : Imm) : Statement (.add32Imm dst imm) := rfl

theorem add32Src (dst : RegField) (src : RegField) : Statement (.add32Src dst src) := rfl

theorem sub32Imm (dst : RegField) (imm : Imm) : Statement (.sub32Imm dst imm) := rfl

theorem sub32Src (dst : RegField) (src : RegField) : Statement (.sub32Src dst src) := rfl

theorem mul32Imm (dst : RegField) (imm : Imm) : Statement (.mul32Imm dst imm) := rfl

theorem mul32Src (dst : RegField) (src : RegField) : Statement (.mul32Src dst src) := rfl

theorem div32Imm (dst : RegField) (imm : Imm) : Statement (.div32Imm dst imm) := rfl

theorem div32Src (dst : RegField) (src : RegField) : Statement (.div32Src dst src) := rfl

theorem or32Imm (dst : RegField) (imm : Imm) : Statement (.or32Imm dst imm) := rfl

theorem or32Src (dst : RegField) (src : RegField) : Statement (.or32Src dst src) := rfl

theorem and32Imm (dst : RegField) (imm : Imm) : Statement (.and32Imm dst imm) := rfl

theorem and32Src (dst : RegField) (src : RegField) : Statement (.and32Src dst src) := rfl

theorem lsh32Imm (dst : RegField) (imm : Imm) : Statement (.lsh32Imm dst imm) := rfl

theorem lsh32Src (dst : RegField) (src : RegField) : Statement (.lsh32Src dst src) := rfl

theorem rsh32Imm (dst : RegField) (imm : Imm) : Statement (.rsh32Imm dst imm) := rfl

theorem rsh32Src (dst : RegField) (src : RegField) : Statement (.rsh32Src dst src) := rfl

theorem mod32Imm (dst : RegField) (imm : Imm) : Statement (.mod32Imm dst imm) := rfl

theorem mod32Src (dst : RegField) (src : RegField) : Statement (.mod32Src dst src) := rfl

theorem xor32Imm (dst : RegField) (imm : Imm) : Statement (.xor32Imm dst imm) := rfl

theorem xor32Src (dst : RegField) (src : RegField) : Statement (.xor32Src dst src) := rfl

theorem mov32Imm (dst : RegField) (imm : Imm) : Statement (.mov32Imm dst imm) := rfl

theorem mov32Src (dst : RegField) (src : RegField) : Statement (.mov32Src dst src) := rfl

theorem arsh32Imm (dst : RegField) (imm : Imm) : Statement (.arsh32Imm dst imm) := rfl

theorem arsh32Src (dst : RegField) (src : RegField) : Statement (.arsh32Src dst src) := rfl

theorem neg32 (dst : RegField) : Statement (.neg32 dst) := rfl

theorem le16 (dst : RegField) : Statement (.le16 dst) := rfl

theorem le32 (dst : RegField) : Statement (.le32 dst) := rfl

theorem le64 (dst : RegField) : Statement (.le64 dst) := rfl

theorem be16 (dst : RegField) : Statement (.be16 dst) := rfl

theorem be32 (dst : RegField) : Statement (.be32 dst) := rfl

theorem be64 (dst : RegField) : Statement (.be64 dst) := rfl

theorem ja (offset : Offset) : Statement (.ja offset) := rfl

theorem jeqImm (dst : RegField) (imm : Imm) (offset : Offset) : Statement (.jeqImm dst imm offset) := rfl

theorem jeqSrc (dst : RegField) (src : RegField) (offset : Offset) : Statement (.jeqSrc dst src offset) := rfl

theorem jgtImm (dst : RegField) (imm : Imm) (offset : Offset) : Statement (.jgtImm dst imm offset) := rfl

theorem jgtSrc (dst : RegField) (src : RegField) (offset : Offset) : Statement (.jgtSrc dst src offset) := rfl

theorem jgeImm (dst : RegField) (imm : Imm) (offset : Offset) : Statement (.jgeImm dst imm offset) := rfl

theorem jgeSrc (dst : RegField) (src : RegField) (offset : Offset) : Statement (.jgeSrc dst src offset) := rfl

theorem jsetImm (dst : RegField) (imm : Imm) (offset : Offset) : Statement (.jsetImm dst imm offset) := rfl

theorem jsetSrc (dst : RegField) (src : RegField) (offset : Offset) : Statement (.jsetSrc dst src offset) := rfl

theorem jneImm (dst : RegField) (imm : Imm) (offset : Offset) : Statement (.jneImm dst imm offset) := rfl

theorem jneSrc (dst : RegField) (src : RegField) (offset : Offset) : Statement (.jneSrc dst src offset) := rfl

theorem jsgtImm (dst : RegField) (imm : Imm) (offset : Offset) : Statement (.jsgtImm dst imm offset) := rfl

theorem jsgtSrc (dst : RegField) (src : RegField) (offset : Offset) : Statement (.jsgtSrc dst src offset) := rfl

theorem jsgeImm (dst : RegField) (imm : Imm) (offset : Offset) : Statement (.jsgeImm dst imm offset) := rfl

theorem jsgeSrc (dst : RegField) (src : RegField) (offset : Offset) : Statement (.jsgeSrc dst src offset) := rfl

theorem call (imm : Imm) : Statement (.call imm) := rfl

theorem exit : Statement (.exit) := rfl

theorem lddw (dst : RegField) (imm : Imm) : Statement (.lddw dst imm) := rfl

theorem ldxw (dst : RegField) (src : RegField) (offset : Offset) : Statement (.ldxw dst src offset) := rfl

theorem ldxh (dst : RegField) (src : RegField) (offset : Offset) : Statement (.ldxh dst src offset) := rfl

theorem ldxb (dst : RegField) (src : RegField) (offset : Offset) : Statement (.ldxb dst src offset) := rfl

theorem ldxdw (dst : RegField) (src : RegField) (offset : Offset) : Statement (.ldxdw dst src offset) := rfl

theorem stw (dst : RegField) (offset : Offset) (imm : Imm) : Statement (.stw dst offset imm) := rfl

theorem sth (dst : RegField) (offset : Offset) (imm : Imm) : Statement (.sth dst offset imm) := rfl

theorem stb (dst : RegField) (offset : Offset) (imm : Imm) : Statement (.stb dst offset imm) := rfl

theorem stdw (dst : RegField) (offset : Offset) (imm : Imm) : Statement (.stdw dst offset imm) := rfl

theorem stxw (dst : RegField) (src : RegField) (offset : Offset) : Statement (.stxw dst src offset) := rfl

theorem stxh (dst : RegField) (src : RegField) (offset : Offset) : Statement (.stxh dst src offset) := rfl

theorem stxb (dst : RegField) (src : RegField) (offset : Offset) : Statement (.stxb dst src offset) := rfl

theorem stxdw (dst : RegField) (src : RegField) (offset : Offset) : Statement (.stxdw dst src offset) := rfl

theorem ldabsw : Statement (.ldabsw) := rfl

theorem ldabsh : Statement (.ldabsh) := rfl

theorem ldabsb : Statement (.ldabsb) := rfl

theorem ldabsdw : Statement (.ldabsdw) := rfl

theorem ldindw : Statement (.ldindw) := rfl

theorem ldindh : Statement (.ldindh) := rfl

theorem ldindb : Statement (.ldindb) := rfl

theorem ldinddw : Statement (.ldinddw) := rfl

end LegalOpcode

namespace FormFields

/-- The instruction holds a register field exactly where its form uses one (R90). -/
def Statement (i : Instr) : Prop :=
  i.usedDst.isSome = i.form.usesDst ∧ i.usedSrc.isSome = i.form.usesSrc

theorem addImm (dst : RegField) (imm : Imm) : Statement (.addImm dst imm) := ⟨rfl, rfl⟩

theorem addSrc (dst : RegField) (src : RegField) : Statement (.addSrc dst src) := ⟨rfl, rfl⟩

theorem subImm (dst : RegField) (imm : Imm) : Statement (.subImm dst imm) := ⟨rfl, rfl⟩

theorem subSrc (dst : RegField) (src : RegField) : Statement (.subSrc dst src) := ⟨rfl, rfl⟩

theorem mulImm (dst : RegField) (imm : Imm) : Statement (.mulImm dst imm) := ⟨rfl, rfl⟩

theorem mulSrc (dst : RegField) (src : RegField) : Statement (.mulSrc dst src) := ⟨rfl, rfl⟩

theorem divImm (dst : RegField) (imm : Imm) : Statement (.divImm dst imm) := ⟨rfl, rfl⟩

theorem divSrc (dst : RegField) (src : RegField) : Statement (.divSrc dst src) := ⟨rfl, rfl⟩

theorem orImm (dst : RegField) (imm : Imm) : Statement (.orImm dst imm) := ⟨rfl, rfl⟩

theorem orSrc (dst : RegField) (src : RegField) : Statement (.orSrc dst src) := ⟨rfl, rfl⟩

theorem andImm (dst : RegField) (imm : Imm) : Statement (.andImm dst imm) := ⟨rfl, rfl⟩

theorem andSrc (dst : RegField) (src : RegField) : Statement (.andSrc dst src) := ⟨rfl, rfl⟩

theorem lshImm (dst : RegField) (imm : Imm) : Statement (.lshImm dst imm) := ⟨rfl, rfl⟩

theorem lshSrc (dst : RegField) (src : RegField) : Statement (.lshSrc dst src) := ⟨rfl, rfl⟩

theorem rshImm (dst : RegField) (imm : Imm) : Statement (.rshImm dst imm) := ⟨rfl, rfl⟩

theorem rshSrc (dst : RegField) (src : RegField) : Statement (.rshSrc dst src) := ⟨rfl, rfl⟩

theorem modImm (dst : RegField) (imm : Imm) : Statement (.modImm dst imm) := ⟨rfl, rfl⟩

theorem modSrc (dst : RegField) (src : RegField) : Statement (.modSrc dst src) := ⟨rfl, rfl⟩

theorem xorImm (dst : RegField) (imm : Imm) : Statement (.xorImm dst imm) := ⟨rfl, rfl⟩

theorem xorSrc (dst : RegField) (src : RegField) : Statement (.xorSrc dst src) := ⟨rfl, rfl⟩

theorem movImm (dst : RegField) (imm : Imm) : Statement (.movImm dst imm) := ⟨rfl, rfl⟩

theorem movSrc (dst : RegField) (src : RegField) : Statement (.movSrc dst src) := ⟨rfl, rfl⟩

theorem arshImm (dst : RegField) (imm : Imm) : Statement (.arshImm dst imm) := ⟨rfl, rfl⟩

theorem arshSrc (dst : RegField) (src : RegField) : Statement (.arshSrc dst src) := ⟨rfl, rfl⟩

theorem neg (dst : RegField) : Statement (.neg dst) := ⟨rfl, rfl⟩

theorem add32Imm (dst : RegField) (imm : Imm) : Statement (.add32Imm dst imm) := ⟨rfl, rfl⟩

theorem add32Src (dst : RegField) (src : RegField) : Statement (.add32Src dst src) := ⟨rfl, rfl⟩

theorem sub32Imm (dst : RegField) (imm : Imm) : Statement (.sub32Imm dst imm) := ⟨rfl, rfl⟩

theorem sub32Src (dst : RegField) (src : RegField) : Statement (.sub32Src dst src) := ⟨rfl, rfl⟩

theorem mul32Imm (dst : RegField) (imm : Imm) : Statement (.mul32Imm dst imm) := ⟨rfl, rfl⟩

theorem mul32Src (dst : RegField) (src : RegField) : Statement (.mul32Src dst src) := ⟨rfl, rfl⟩

theorem div32Imm (dst : RegField) (imm : Imm) : Statement (.div32Imm dst imm) := ⟨rfl, rfl⟩

theorem div32Src (dst : RegField) (src : RegField) : Statement (.div32Src dst src) := ⟨rfl, rfl⟩

theorem or32Imm (dst : RegField) (imm : Imm) : Statement (.or32Imm dst imm) := ⟨rfl, rfl⟩

theorem or32Src (dst : RegField) (src : RegField) : Statement (.or32Src dst src) := ⟨rfl, rfl⟩

theorem and32Imm (dst : RegField) (imm : Imm) : Statement (.and32Imm dst imm) := ⟨rfl, rfl⟩

theorem and32Src (dst : RegField) (src : RegField) : Statement (.and32Src dst src) := ⟨rfl, rfl⟩

theorem lsh32Imm (dst : RegField) (imm : Imm) : Statement (.lsh32Imm dst imm) := ⟨rfl, rfl⟩

theorem lsh32Src (dst : RegField) (src : RegField) : Statement (.lsh32Src dst src) := ⟨rfl, rfl⟩

theorem rsh32Imm (dst : RegField) (imm : Imm) : Statement (.rsh32Imm dst imm) := ⟨rfl, rfl⟩

theorem rsh32Src (dst : RegField) (src : RegField) : Statement (.rsh32Src dst src) := ⟨rfl, rfl⟩

theorem mod32Imm (dst : RegField) (imm : Imm) : Statement (.mod32Imm dst imm) := ⟨rfl, rfl⟩

theorem mod32Src (dst : RegField) (src : RegField) : Statement (.mod32Src dst src) := ⟨rfl, rfl⟩

theorem xor32Imm (dst : RegField) (imm : Imm) : Statement (.xor32Imm dst imm) := ⟨rfl, rfl⟩

theorem xor32Src (dst : RegField) (src : RegField) : Statement (.xor32Src dst src) := ⟨rfl, rfl⟩

theorem mov32Imm (dst : RegField) (imm : Imm) : Statement (.mov32Imm dst imm) := ⟨rfl, rfl⟩

theorem mov32Src (dst : RegField) (src : RegField) : Statement (.mov32Src dst src) := ⟨rfl, rfl⟩

theorem arsh32Imm (dst : RegField) (imm : Imm) : Statement (.arsh32Imm dst imm) := ⟨rfl, rfl⟩

theorem arsh32Src (dst : RegField) (src : RegField) : Statement (.arsh32Src dst src) := ⟨rfl, rfl⟩

theorem neg32 (dst : RegField) : Statement (.neg32 dst) := ⟨rfl, rfl⟩

theorem le16 (dst : RegField) : Statement (.le16 dst) := ⟨rfl, rfl⟩

theorem le32 (dst : RegField) : Statement (.le32 dst) := ⟨rfl, rfl⟩

theorem le64 (dst : RegField) : Statement (.le64 dst) := ⟨rfl, rfl⟩

theorem be16 (dst : RegField) : Statement (.be16 dst) := ⟨rfl, rfl⟩

theorem be32 (dst : RegField) : Statement (.be32 dst) := ⟨rfl, rfl⟩

theorem be64 (dst : RegField) : Statement (.be64 dst) := ⟨rfl, rfl⟩

theorem ja (offset : Offset) : Statement (.ja offset) := ⟨rfl, rfl⟩

theorem jeqImm (dst : RegField) (imm : Imm) (offset : Offset) : Statement (.jeqImm dst imm offset) := ⟨rfl, rfl⟩

theorem jeqSrc (dst : RegField) (src : RegField) (offset : Offset) : Statement (.jeqSrc dst src offset) := ⟨rfl, rfl⟩

theorem jgtImm (dst : RegField) (imm : Imm) (offset : Offset) : Statement (.jgtImm dst imm offset) := ⟨rfl, rfl⟩

theorem jgtSrc (dst : RegField) (src : RegField) (offset : Offset) : Statement (.jgtSrc dst src offset) := ⟨rfl, rfl⟩

theorem jgeImm (dst : RegField) (imm : Imm) (offset : Offset) : Statement (.jgeImm dst imm offset) := ⟨rfl, rfl⟩

theorem jgeSrc (dst : RegField) (src : RegField) (offset : Offset) : Statement (.jgeSrc dst src offset) := ⟨rfl, rfl⟩

theorem jsetImm (dst : RegField) (imm : Imm) (offset : Offset) : Statement (.jsetImm dst imm offset) := ⟨rfl, rfl⟩

theorem jsetSrc (dst : RegField) (src : RegField) (offset : Offset) : Statement (.jsetSrc dst src offset) := ⟨rfl, rfl⟩

theorem jneImm (dst : RegField) (imm : Imm) (offset : Offset) : Statement (.jneImm dst imm offset) := ⟨rfl, rfl⟩

theorem jneSrc (dst : RegField) (src : RegField) (offset : Offset) : Statement (.jneSrc dst src offset) := ⟨rfl, rfl⟩

theorem jsgtImm (dst : RegField) (imm : Imm) (offset : Offset) : Statement (.jsgtImm dst imm offset) := ⟨rfl, rfl⟩

theorem jsgtSrc (dst : RegField) (src : RegField) (offset : Offset) : Statement (.jsgtSrc dst src offset) := ⟨rfl, rfl⟩

theorem jsgeImm (dst : RegField) (imm : Imm) (offset : Offset) : Statement (.jsgeImm dst imm offset) := ⟨rfl, rfl⟩

theorem jsgeSrc (dst : RegField) (src : RegField) (offset : Offset) : Statement (.jsgeSrc dst src offset) := ⟨rfl, rfl⟩

theorem call (imm : Imm) : Statement (.call imm) := ⟨rfl, rfl⟩

theorem exit : Statement (.exit) := ⟨rfl, rfl⟩

theorem lddw (dst : RegField) (imm : Imm) : Statement (.lddw dst imm) := ⟨rfl, rfl⟩

theorem ldxw (dst : RegField) (src : RegField) (offset : Offset) : Statement (.ldxw dst src offset) := ⟨rfl, rfl⟩

theorem ldxh (dst : RegField) (src : RegField) (offset : Offset) : Statement (.ldxh dst src offset) := ⟨rfl, rfl⟩

theorem ldxb (dst : RegField) (src : RegField) (offset : Offset) : Statement (.ldxb dst src offset) := ⟨rfl, rfl⟩

theorem ldxdw (dst : RegField) (src : RegField) (offset : Offset) : Statement (.ldxdw dst src offset) := ⟨rfl, rfl⟩

theorem stw (dst : RegField) (offset : Offset) (imm : Imm) : Statement (.stw dst offset imm) := ⟨rfl, rfl⟩

theorem sth (dst : RegField) (offset : Offset) (imm : Imm) : Statement (.sth dst offset imm) := ⟨rfl, rfl⟩

theorem stb (dst : RegField) (offset : Offset) (imm : Imm) : Statement (.stb dst offset imm) := ⟨rfl, rfl⟩

theorem stdw (dst : RegField) (offset : Offset) (imm : Imm) : Statement (.stdw dst offset imm) := ⟨rfl, rfl⟩

theorem stxw (dst : RegField) (src : RegField) (offset : Offset) : Statement (.stxw dst src offset) := ⟨rfl, rfl⟩

theorem stxh (dst : RegField) (src : RegField) (offset : Offset) : Statement (.stxh dst src offset) := ⟨rfl, rfl⟩

theorem stxb (dst : RegField) (src : RegField) (offset : Offset) : Statement (.stxb dst src offset) := ⟨rfl, rfl⟩

theorem stxdw (dst : RegField) (src : RegField) (offset : Offset) : Statement (.stxdw dst src offset) := ⟨rfl, rfl⟩

theorem ldabsw : Statement (.ldabsw) := ⟨rfl, rfl⟩

theorem ldabsh : Statement (.ldabsh) := ⟨rfl, rfl⟩

theorem ldabsb : Statement (.ldabsb) := ⟨rfl, rfl⟩

theorem ldabsdw : Statement (.ldabsdw) := ⟨rfl, rfl⟩

theorem ldindw : Statement (.ldindw) := ⟨rfl, rfl⟩

theorem ldindh : Statement (.ldindh) := ⟨rfl, rfl⟩

theorem ldindb : Statement (.ldindb) := ⟨rfl, rfl⟩

theorem ldinddw : Statement (.ldinddw) := ⟨rfl, rfl⟩

end FormFields

end Sys2Proof.Laws
end

