-- ==== Sys2Proof/Tests/Slice0.lean ====
section
/-! SUPPORT. The tests. Expected words and results are the spec's own: the `Example` line of each instruction's rule and the
vectors of spec/95_test_vectors.md. After them, for every obligation with hypotheses, a theorem with states and operands
that meet them all, each clause at a boundary of its range. -/

namespace Sys2Proof.Tests

open Sys2Proof.Machine Sys2Proof.Claims

/-! ## Helpers -/

/-- A Running machine about to execute `w` at slot `pc`, with the registers given and the others 0, and scratch byte `i`
holding `0x10 + i`, the memory of the examples of R232. -/
def small (pc : Nat) (regs : List (RegIdx × Word)) (w : Word) : State :=
  regs.foldl (fun s p => s.write64 p.1 p.2)
    { State.resetWith (fun i => BitVec.ofNat 8 (0x10 + i)) with
      control := .running, pc := pc, program := List.replicate pc 0 ++ [w] }

/-- The next state, where a step answers one. -/
def after (s : State) : Option State :=
  match step s with
  | .next t => some t
  | _ => none

/-- One step of `w` at slot 0 leaves exactly `v` in register `d` and `pc` 1. -/
def wrote (w : Word) (regs : List (RegIdx × Word)) (d : RegIdx) (v : Word) : Bool :=
  decide (after (small 0 regs w) = some ((small 0 regs w).write64 d v).advance)

/-- One step of `w` at slot `pc` leaves exactly `target` in `pc`. -/
def jumped (w : Word) (pc : Nat) (regs : List (RegIdx × Word)) (target : Int) : Bool :=
  decide (after (small pc regs w) = some ((small pc regs w).goto target))

/-- One step of `w` at slot 0 leaves exactly the bytes given from address `a` up, and `pc` 1. -/
def stored (w : Word) (regs : List (RegIdx × Word)) (a : Nat) (bytes : List Byte) : Bool :=
  decide (after (small 0 regs w) = some { small 0 regs w with
    pc := 1
    mem := Memory.ofBytes fun i =>
      if a ≤ i ∧ i < a + bytes.length then bytes.getD (i - a) 0 else BitVec.ofNat 8 (0x10 + i) })

/-- One step of `w` at slot 0 takes cause `c`. -/
def faults (w : Word) (regs : List (RegIdx × Word)) (c : Cause) : Bool :=
  decide (after (small 0 regs w) = some (takeFault c (small 0 regs w)))

/-- The source text assembles to these words. -/
def assembles (src : String) (words : List Word) : Bool := decide (assemble src.toList = .ok words)

/-- The source text is refused at this line, for this token (R116). -/
def refused (src : String) (line : Nat) (token : String) : Bool :=
  match assemble src.toList with
  | .ok _ => false
  | .error e => e.line == line && e.token == token.toList

/-! ## Well-formedness: a term that each check refuses -/

/-- A `dst` that names no register (R25). -/
theorem test_wf_refuses_unnamed_dst : (Instr.addImm 11 1).WellFormed = false := rfl

/-- A `src` that names no register (R25). -/
theorem test_wf_refuses_unnamed_src : (Instr.addSrc 1 15).WellFormed = false := rfl

/-- R10 as the register written (R24). -/
theorem test_wf_refuses_writing_r10 : (Instr.ldxw 10 1 0).WellFormed = false := rfl

/-- R10 as a base and as the register stored (R24 allows both). -/
theorem test_wf_accepts_reading_r10 : (Instr.stxw 10 10 0x7c).WellFormed = true := rfl

/-! ## Decoding, and one step: the examples of the rules -/

/-- 64-bit ALU: the examples of R132 to R156. -/
theorem test_decode_alu64 : (
    [(0x0000000100000107, .addImm 1 0x1), (0x000000000000210f, .addSrc 1 2), (0x0000000100000117, .subImm 1 0x1),
     (0x000000000000211f, .subSrc 1 2), (0xffffffff00000127, .mulImm 1 0xffffffff),
     (0x000000000000212f, .mulSrc 1 2), (0x0000000200000137, .divImm 1 0x2), (0x000000000000213f, .divSrc 1 2),
     (0x0000000f00000147, .orImm 1 0xf), (0x000000000000214f, .orSrc 1 2),
     (0xffff000000000157, .andImm 1 0xffff0000), (0x000000000000215f, .andSrc 1 2),
     (0x0000000400000167, .lshImm 1 0x4), (0x000000000000216f, .lshSrc 1 2), (0x0000003f00000177, .rshImm 1 0x3f),
     (0x000000000000217f, .rshSrc 1 2), (0x0000000a00000197, .modImm 1 0xa), (0x000000000000219f, .modSrc 1 2),
     (0x0000ffff000001a7, .xorImm 1 0xffff), (0x00000000000021af, .xorSrc 1 2),
     (0xffffffff000001b7, .movImm 1 0xffffffff), (0x00000000000021bf, .movSrc 1 2),
     (0x00000004000001c7, .arshImm 1 0x4), (0x00000000000021cf, .arshSrc 1 2), (0x0000000000000187, .neg 1)]
    : List (Word × Instr)).all (fun p => decide (decode p.1 = .ok p.2)) = true := by decide

/-- 32-bit ALU: the examples of R162 to R186. -/
theorem test_decode_alu32 : (
    [(0x0000000100000104, .add32Imm 1 0x1), (0x000000000000210c, .add32Src 1 2),
     (0x0000000100000114, .sub32Imm 1 0x1), (0x000000000000211c, .sub32Src 1 2),
     (0xffffffff00000124, .mul32Imm 1 0xffffffff), (0x000000000000212c, .mul32Src 1 2),
     (0x0000000200000134, .div32Imm 1 0x2), (0x000000000000213c, .div32Src 1 2),
     (0x0000000f00000144, .or32Imm 1 0xf), (0x000000000000214c, .or32Src 1 2),
     (0x0000ffff00000154, .and32Imm 1 0xffff), (0x000000000000215c, .and32Src 1 2),
     (0x0000000400000164, .lsh32Imm 1 0x4), (0x000000000000216c, .lsh32Src 1 2),
     (0x0000001f00000174, .rsh32Imm 1 0x1f), (0x000000000000217c, .rsh32Src 1 2),
     (0x0000000a00000194, .mod32Imm 1 0xa), (0x000000000000219c, .mod32Src 1 2),
     (0xffffffff000001a4, .xor32Imm 1 0xffffffff), (0x00000000000021ac, .xor32Src 1 2),
     (0xffffffff000001b4, .mov32Imm 1 0xffffffff), (0x00000000000021bc, .mov32Src 1 2),
     (0x00000004000001c4, .arsh32Imm 1 0x4), (0x00000000000021cc, .arsh32Src 1 2), (0x0000000000000184, .neg32 1)]
    : List (Word × Instr)).all (fun p => decide (decode p.1 = .ok p.2)) = true := by decide

/-- Byte order: the examples of R192 to R197. -/
theorem test_decode_byteorder : (
    [(0x00000010000001d4, .le16 1), (0x00000020000001d4, .le32 1), (0x00000040000001d4, .le64 1),
     (0x00000010000001dc, .be16 1), (0x00000020000001dc, .be32 1), (0x00000040000001dc, .be64 1)]
    : List (Word × Instr)).all (fun p => decide (decode p.1 = .ok p.2)) = true := by decide

/-- Jumps: the examples of R203 to R217. -/
theorem test_decode_jump : (
    [(0x0000000000030005, .ja 3), (0x00000000fffd0005, .ja 0xfffd), (0x0000000000020115, .jeqImm 1 0x0 2),
     (0x000000000002211d, .jeqSrc 1 2 2), (0x0000000100020125, .jgtImm 1 0x1 2), (0x000000000002212d, .jgtSrc 1 2 2),
     (0x0000000500020135, .jgeImm 1 0x5 2), (0x000000000002213d, .jgeSrc 1 2 2),
     (0x0000003000020145, .jsetImm 1 0x30 2), (0x000000000002214d, .jsetSrc 1 2 2),
     (0x0000000000020155, .jneImm 1 0x0 2), (0x000000000002215d, .jneSrc 1 2 2),
     (0x0000000100020165, .jsgtImm 1 0x1 2), (0x000000000002216d, .jsgtSrc 1 2 2),
     (0x0000000000020175, .jsgeImm 1 0x0 2), (0x000000000002217d, .jsgeSrc 1 2 2)]
    : List (Word × Instr)).all (fun p => decide (decode p.1 = .ok p.2)) = true := by decide

/-- `call` and `exit`: the examples of R220 and R221. -/
theorem test_decode_call_exit : (
    [(0x0000000700000085, .call 7), (0x0000000000000095, .exit)]
    : List (Word × Instr)).all (fun p => decide (decode p.1 = .ok p.2)) = true := by decide

/-- `lddw`: the example of R225. -/
theorem test_decode_lddw : (
    [(0xffffffff00000318, .lddw 3 0xffffffff)]
    : List (Word × Instr)).all (fun p => decide (decode p.1 = .ok p.2)) = true := by decide

/-- Loads and stores: the examples of R232 to R243. -/
theorem test_decode_load_store : (
    [(0x0000000000041261, .ldxw 2 1 4), (0x0000000000041269, .ldxh 2 1 4), (0x0000000000041271, .ldxb 2 1 4),
     (0x0000000000041279, .ldxdw 2 1 4), (0x8899aabb00040162, .stw 1 4 0x8899aabb),
     (0x8899aabb0004016a, .sth 1 4 0x8899aabb), (0x8899aabb00040172, .stb 1 4 0x8899aabb),
     (0x8899aabb0004017a, .stdw 1 4 0x8899aabb), (0x0000000000042163, .stxw 1 2 4),
     (0x000000000004216b, .stxh 1 2 4), (0x0000000000042173, .stxb 1 2 4), (0x000000000004217b, .stxdw 1 2 4)]
    : List (Word × Instr)).all (fun p => decide (decode p.1 = .ok p.2)) = true := by decide

/-- Packet loads: the examples of R251 to R258. -/
theorem test_decode_packet : (
    [(0x0000000000084320, .ldabsw), (0x0000000000084328, .ldabsh), (0x0000000000084330, .ldabsb),
     (0x0000000000084338, .ldabsdw), (0x0000000000084340, .ldindw), (0x0000000000084348, .ldindh),
     (0x0000000000084350, .ldindb), (0x0000000000084358, .ldinddw)]
    : List (Word × Instr)).all (fun p => decide (decode p.1 = .ok p.2)) = true := by decide

/-- 64-bit ALU: the examples of R132 to R156. -/
theorem test_step_alu64 : (
    [(0x0000000100000107, [(1, 0xffffffffffffffff)], 0), (0x000000000000210f, [(1, 0xffffffffffffffff), (2, 1)], 0),
     (0x0000000100000117, [(1, 0)], 0xffffffffffffffff), (0x000000000000211f, [(1, 0), (2, 1)], 0xffffffffffffffff),
     (0xffffffff00000127, [(1, 0x100000001)], 0xfffffffeffffffff),
     (0x000000000000212f, [(1, 0x100000001), (2, 0xffffffff)], 0xffffffffffffffff),
     (0x0000000200000137, [(1, 0xfffffffffffffff9)], 0x7ffffffffffffffc),
     (0x000000000000213f, [(1, 0xfffffffffffffff9), (2, 2)], 0x7ffffffffffffffc),
     (0x0000000f00000147, [(1, 0xf0f0000000000000)], 0xf0f000000000000f),
     (0x000000000000214f, [(1, 0xf0f0000000000000), (2, 0xf)], 0xf0f000000000000f),
     (0xffff000000000157, [(1, 0x123456789abcdef0)], 0x123456789abc0000),
     (0x000000000000215f, [(1, 0x123456789abcdef0), (2, 0xffff0000)], 0x9abc0000),
     (0x0000000400000167, [(1, 0x8000000000000001)], 0x10),
     (0x000000000000216f, [(1, 0x8000000000000001), (2, 4)], 0x10),
     (0x0000003f00000177, [(1, 0x8000000000000000)], 1),
     (0x000000000000217f, [(1, 0x8000000000000000), (2, 0x3f)], 1),
     (0x0000000a00000197, [(1, 0xfffffffffffffff9)], 9),
     (0x000000000000219f, [(1, 0xfffffffffffffff9), (2, 0xa)], 9),
     (0x0000ffff000001a7, [(1, 0xffff0000ffff0000)], 0xffff0000ffffffff),
     (0x00000000000021af, [(1, 0xffff0000ffff0000), (2, 0xffff)], 0xffff0000ffffffff),
     (0xffffffff000001b7, [(1, 0x1111111111111111)], 0xffffffffffffffff),
     (0x00000000000021bf, [(1, 0x1111111111111111), (2, 0xffffffff)], 0xffffffff),
     (0x00000004000001c7, [(1, 0x8000000000000000)], 0xf800000000000000),
     (0x00000000000021cf, [(1, 0x8000000000000000), (2, 4)], 0xf800000000000000),
     (0x0000000000000187, [(1, 5)], 0xfffffffffffffffb)]
    : List (Word × List (RegIdx × Word) × Word)).all (fun p => wrote p.1 p.2.1 1 p.2.2) = true := by decide

/-- 32-bit ALU: the examples of R162 to R186. -/
theorem test_step_alu32 : (
    [(0x0000000100000104, [(1, 0x12345678ffffffff)], 0), (0x000000000000210c, [(1, 0x12345678ffffffff), (2, 1)], 0),
     (0x0000000100000114, [(1, 0xaaaaaaaa00000000)], 0xffffffff),
     (0x000000000000211c, [(1, 0xaaaaaaaa00000000), (2, 1)], 0xffffffff), (0xffffffff00000124, [(1, 0xffffffff)], 1),
     (0x000000000000212c, [(1, 0xffffffff), (2, 0xffffffff)], 1),
     (0x0000000200000134, [(1, 0x1fffffff9)], 0x7ffffffc),
     (0x000000000000213c, [(1, 0x1fffffff9), (2, 2)], 0x7ffffffc),
     (0x0000000f00000144, [(1, 0xffffffff000000f0)], 0xff),
     (0x000000000000214c, [(1, 0xffffffff000000f0), (2, 0xf)], 0xff),
     (0x0000ffff00000154, [(1, 0x123456789abcdef0)], 0xdef0),
     (0x000000000000215c, [(1, 0x123456789abcdef0), (2, 0xffff)], 0xdef0),
     (0x0000000400000164, [(1, 0xffffffff80000001)], 0x10),
     (0x000000000000216c, [(1, 0xffffffff80000001), (2, 4)], 0x10),
     (0x0000001f00000174, [(1, 0xffffffff80000000)], 1),
     (0x000000000000217c, [(1, 0xffffffff80000000), (2, 0x1f)], 1), (0x0000000a00000194, [(1, 0x1fffffff9)], 9),
     (0x000000000000219c, [(1, 0x1fffffff9), (2, 0xa)], 9), (0xffffffff000001a4, [(1, 0xffff0000ffff0000)], 0xffff),
     (0x00000000000021ac, [(1, 0xffff0000ffff0000), (2, 0xffffffff)], 0xffff),
     (0xffffffff000001b4, [(1, 0x1111111111111111)], 0xffffffff),
     (0x00000000000021bc, [(1, 0x1111111111111111), (2, 0xffffffff)], 0xffffffff),
     (0x00000004000001c4, [(1, 0x80000000)], 0xf8000000),
     (0x00000000000021cc, [(1, 0x80000000), (2, 4)], 0xf8000000),
     (0x0000000000000184, [(1, 0xffffffff00000005)], 0xfffffffb)]
    : List (Word × List (RegIdx × Word) × Word)).all (fun p => wrote p.1 p.2.1 1 p.2.2) = true := by decide

/-- Byte order: the examples of R192 to R197. -/
theorem test_step_byteorder : (
    [(0x00000010000001d4, [(1, 0x1122334455667788)], 0x7788),
     (0x00000020000001d4, [(1, 0x1122334455667788)], 0x55667788),
     (0x00000040000001d4, [(1, 0x1122334455667788)], 0x1122334455667788),
     (0x00000010000001dc, [(1, 0x1122334455667788)], 0x8877),
     (0x00000020000001dc, [(1, 0x1122334455667788)], 0x88776655),
     (0x00000040000001dc, [(1, 0x1122334455667788)], 0x8877665544332211)]
    : List (Word × List (RegIdx × Word) × Word)).all (fun p => wrote p.1 p.2.1 1 p.2.2) = true := by decide

/-- Jumps: the examples of R203 to R217. -/
theorem test_step_jump : (
    [(0x0000000000030005, 2, [], 6), (0x00000000fffd0005, 5, [], 3), (0x0000000000020115, 3, [(1, 0)], 6),
     (0x0000000000020115, 3, [(1, 1)], 4), (0x000000000002211d, 3, [(1, 5), (2, 5)], 6),
     (0x000000000002211d, 3, [(1, 5), (2, 6)], 4), (0x0000000100020125, 3, [(1, 0xffffffffffffffff)], 6),
     (0x0000000100020125, 3, [(1, 1)], 4), (0x000000000002212d, 3, [(1, 0xffffffffffffffff), (2, 1)], 6),
     (0x000000000002212d, 3, [(1, 0xffffffffffffffff), (2, 0xffffffffffffffff)], 4),
     (0x0000000500020135, 3, [(1, 5)], 6), (0x0000000500020135, 3, [(1, 4)], 4),
     (0x000000000002213d, 3, [(1, 5), (2, 5)], 6), (0x000000000002213d, 3, [(1, 5), (2, 6)], 4),
     (0x0000003000020145, 3, [(1, 0x10)], 6), (0x0000003000020145, 3, [(1, 0x40)], 4),
     (0x000000000002214d, 3, [(1, 0x10), (2, 0x30)], 6), (0x000000000002214d, 3, [(1, 0x10), (2, 0xf)], 4),
     (0x0000000000020155, 3, [(1, 0)], 4), (0x0000000000020155, 3, [(1, 0)], 4),
     (0x000000000002215d, 3, [(1, 5), (2, 5)], 4), (0x000000000002215d, 3, [(1, 5), (2, 5)], 4),
     (0x0000000100020165, 3, [(1, 0xffffffffffffffff)], 4), (0x0000000100020165, 3, [(1, 2)], 6),
     (0x000000000002216d, 3, [(1, 0xffffffffffffffff), (2, 1)], 4),
     (0x000000000002216d, 3, [(1, 0xffffffffffffffff), (2, 0x8000000000000000)], 6),
     (0x0000000000020175, 3, [(1, 0x8000000000000000)], 4), (0x0000000000020175, 3, [(1, 0)], 6),
     (0x000000000002217d, 3, [(1, 0x8000000000000000), (2, 0)], 4),
     (0x000000000002217d, 3, [(1, 0x8000000000000000), (2, 0x8000000000000000)], 6)]
    : List (Word × Nat × List (RegIdx × Word) × Int)).all (fun p => jumped p.1 p.2.1 p.2.2.1 p.2.2.2) = true := by
  decide

/-- Loads: the examples of R232 to R235, scratch byte `i` holding `0x10 + i`. -/
theorem test_step_load : (
    [(0x0000000000041261, [(1, 8)], 0x1f1e1d1c), (0x0000000000041269, [(1, 8)], 0x1d1c),
     (0x0000000000041271, [(1, 8)], 0x1c), (0x0000000000041279, [(1, 8)], 0x232221201f1e1d1c)]
    : List (Word × List (RegIdx × Word) × Word)).all (fun p => wrote p.1 p.2.1 2 p.2.2) = true := by decide

/-- The last admitted address and the first refused one (R232 to R235). -/
theorem test_step_load_bounds : (
    [(0x0000000000041261, 120, 121), (0x0000000000041269, 122, 123), (0x0000000000041271, 123, 124),
     (0x0000000000041279, 116, 117)]
    : List (Word × Word × Word)).all (fun p => !faults p.1 [(1, p.2.1)] .memOutOfBounds &&
      faults p.1 [(1, p.2.2)] .memOutOfBounds) = true := by decide

/-- Stores: the examples of R236 to R243. -/
theorem test_step_store : (
    [(0x8899aabb00040162, [(1, 8)], [0xbb, 0xaa, 0x99, 0x88]), (0x8899aabb0004016a, [(1, 8)], [0xbb, 0xaa]),
     (0x8899aabb00040172, [(1, 8)], [0xbb]),
     (0x8899aabb0004017a, [(1, 8)], [0xbb, 0xaa, 0x99, 0x88, 0xff, 0xff, 0xff, 0xff]),
     (0x0000000000042163, [(1, 8), (2, 0x1122334455667788)], [0x88, 0x77, 0x66, 0x55]),
     (0x000000000004216b, [(1, 8), (2, 0x1122334455667788)], [0x88, 0x77]),
     (0x0000000000042173, [(1, 8), (2, 0x1122334455667788)], [0x88]),
     (0x000000000004217b, [(1, 8), (2, 0x1122334455667788)], [0x88, 0x77, 0x66, 0x55, 0x44, 0x33, 0x22, 0x11])]
    : List (Word × List (RegIdx × Word) × List Byte)).all (fun p => stored p.1 p.2.1 12 p.2.2) = true := by decide

/-- `call`, `exit` and `lddw`: the examples of R220, R221 and R225. -/
theorem test_step_call_exit_lddw :
    jumped 0x0000000700000085 2 [] 7 = true ∧
    after (small 1 [(0, 5)] 0x0000000000000095) = some (small 1 [(0, 5)] 0x0000000000000095).halt ∧
    (small 1 [(0, 5)] 0x0000000000000095).halt.result = 5 ∧
    wrote 0xffffffff00000318 [(3, 0xffffffffffffffff)] 3 0xffffffff = true := by decide

/-- Packet loads: the examples of R251 to R258. -/
theorem test_step_packet : ([0x0000000000084320, 0x0000000000084328, 0x0000000000084330, 0x0000000000084338,
    0x0000000000084340, 0x0000000000084348, 0x0000000000084350, 0x0000000000084358] : List Word).all (fun w =>
      decide (after (small 2 [] w) = some { small 2 [] w with pc := 3, unsup := true, unsupCount := 1 })) = true := by
  decide

/-! ## More vectors of spec/95_test_vectors.md -/

/-- Section 2.1: the codec on values no opcode map depends on, and what the encoder refuses. -/
theorem test_codec :
    encodeInts 0xab 12 5 (-2) 0x12345678 = .ok 0x12345678fffe5cab ∧
    encodeInts 0x12 3 4 (-32768) 0x80000000 = .ok 0x8000000080004312 ∧
    (decodeFields 0xdeadbeefcafef00d).toInts = (0x0d, 0, 15, -13570, 0xdeadbeef) ∧
    encodeInts 0 16 0 0 0 = .error .dst ∧ encodeInts 0 0 (-1) 0 0 = .error .src ∧
    encodeInts 0 0 0 (-32769) 0 = .error .offset ∧ encodeInts 0 0 0 0 (2 ^ 32) = .error .imm ∧
    encodeInts 256 0 0 0 0 = .error .opcode := by decide

/-- Sections 2.2 and 2.3: sign-extended immediates, shift amounts of the full width and more, `src` = `dst`, the low
halves only, and the most negative numbers. -/
theorem test_alu_corners : (
    [(0xffffffff00000107, [(1, 5)], 4), (0x000000000000110f, [(1, 0x8000000000000000)], 0),
     (0xffffffff00000137, [(1, 5)], 0), (0x000000000000213f, [(1, 0x8000000000000000), (2, 0xffffffffffffffff)], 0),
     (0x000000000000216f, [(1, 1), (2, 0x41)], 2), (0xffffffff00000167, [(1, 1)], 0x8000000000000000),
     (0x0000004000000177, [(1, 0xffffffffffffffff)], 0xffffffffffffffff),
     (0x00000000000021cf, [(1, 0x8000000000000000), (2, 0x3f)], 0xffffffffffffffff),
     (0x0000000000000187, [(1, 0x8000000000000000)], 0x8000000000000000),
     (0x000000000000213c, [(1, 0xdeadbeef00000007), (2, 0xdeadbeef00000002)], 3),
     (0x000000000000216c, [(1, 1), (2, 0xdeadbeef00000001)], 2),
     (0x00000004000001c4, [(1, 0xffffffff7fffffff)], 0x7ffffff), (0x00000000000011bc, [(1, 0xffffffffffffffff)], 0xffffffff),
     (0x000000011234f107, [(1, 5)], 6)]
    : List (Word × List (RegIdx × Word) × Word)).all (fun p => wrote p.1 p.2.1 1 p.2.2) = true := by decide

/-- Sections 2.5 and 2.7: a negative target, comparisons that tell signed from unsigned, a base above the wrapped sum. -/
theorem test_jump_and_access_corners :
    jumped 0x00000000fff40005 10 [] (-1) = true ∧
    jumped 0xffffffff00030125 10 [(1, 0xffffffff)] 11 = true ∧
    jumped 0x000000000003216d 10 [(1, 0x7fffffffffffffff), (2, 0x8000000000000000)] 14 = true ∧
    jumped 0x8000000000030145 10 [(1, 0x8000000000000000)] 14 = true ∧
    jumped 0xffffffff00000085 3 [] 4294967295 = true ∧
    wrote 0x00000000fff81279 [(1, 0x80)] 2 0x8f8e8d8c8b8a8988 = true ∧
    faults 0x0000000000011279 [(1, 0xffffffffffffffff)] .memOutOfBounds = true ∧
    faults 0x00000000fffc2163 [(1, 3), (2, 1)] .memOutOfBounds = true := by decide

/-- Sections 2.2, 2.4, 2.8 and 2.10: which cause a faulting step takes, and which of two comes first (R262, R263). -/
theorem test_faults : (
    [(0x000000000000213f, .divideByZero), (0x0000000000000197, .divideByZero), (0x0000000000000134, .divideByZero),
     (0x0000000100000a07, .readOnlyRegister), (0x000000000000aabf, .readOnlyRegister),
     (0x0000000000001b0f, .invalidRegister), (0x000000000000f10f, .invalidRegister),
     (0x00000008000001dc, .illegalInstruction), (0x80000040000001dc, .illegalInstruction),
     (0x0000000800000cdc, .illegalInstruction), (0x0000001000000cdc, .invalidRegister),
     (0x0000000000010b15, .invalidRegister), (0x0000000000001a61, .readOnlyRegister),
     (0x0000000000001c63, .invalidRegister), (0x0000000000000000, .illegalInstruction),
     (0xffffffffffffffff, .illegalInstruction), (0x000000000000218f, .illegalInstruction),
     (0x000000000000ba3f, .invalidRegister), (0x0000000000000a37, .readOnlyRegister),
     (0x000000000000ba61, .invalidRegister), (0x000000000000dc8f, .illegalInstruction)]
    : List (Word × Cause)).all (fun p => faults p.1 [(3, 1000)] p.2) = true := by decide

/-- R89: over all 256 opcode bytes, with `imm` 16, the decoder accepts the 90 of the list and no other. -/
theorem test_legal_opcodes :
    ((List.range 256).map (BitVec.ofNat 8)).filter (fun op => (selectInstr ⟨op, 0, 0, 0, 16⟩).toBool) = legalOpcodes := by
  decide

/-- P9: the step after reset and `run` reads a byte of `MEM_INIT` that no store has written. -/
theorem test_unwritten_byte :
    (after (hostRun [0x000000000005a071, 0x0000000000000095]
      (hostReset (fun i => BitVec.ofNat 8 (7 * i + 3)) State.reset))).map State.result = some 0x26 := by decide

/-- The word of `mov r0 #5` placed for the first step after reset is fetched and run. -/
theorem test_first_step_after_reset :
    decodeTableWord 64 0x00000005000000b7 = some (.movImm 0 5) ∧
    (after (State.reset.withFetchWord 64 0x00000005000000b7)).map (fun t => (t.result, t.pc)) = some (5, 1) := by decide

/-! ## The assembler (section 2.11) -/

theorem test_assembles :
    assembles "add r1 #10" [0x0000001000000107] = true ∧
    assembles "mov r0 #0x5" [0x00000005000000b7] = true ∧
    assembles "be64 r7" [0x00000040000007dc] = true ∧
    assembles "ldxdw r0 [r1 + #fff8]" [0x00000000fff81079] = true ∧
    assembles "stw [r10 + #8] #deadbeef" [0xdeadbeef00080a62] = true ∧
    assembles "stxh [r3 + #7e] r4" [0x00000000007e436b] = true ∧
    assembles "ldinddw r5 [r6 + #10]" [0x0000000000106558] = true := by decide

theorem test_assembles_labels :
    assembles "jeq r1 #0 L\nmov r2 r2\nmov r2 r2\nL:\nexit"
      [0x0000000000020115, 0x00000000000022bf, 0x00000000000022bf, 0x0000000000000095] = true ∧
    assembles "L:\nadd r0 #1\njne r0 #3 L\nexit" [0x0000000100000007, 0x00000003fffe0055, 0x0000000000000095] = true ∧
    assembles ";; a comment\n\nstart:\nja start" [0x00000000ffff0005] = true ∧
    assembles "ja end\nexit\nend:" [0x0000000000010005, 0x0000000000000095] = true := by decide

theorem test_assembler_refuses :
    refused "mov r0 #5\nfrobnicate r1\nexit" 2 "frobnicate" = true ∧ refused "mov r11 #0" 1 "r11" = true ∧
    refused "mov r1" 1 "mov" = true ∧ refused "mov r1 #5 r2" 1 "r2" = true ∧
    refused "mov r1 #100000000" 1 "#100000000" = true ∧ refused "ja nowhere" 1 "nowhere" = true ∧
    refused "L:\nL:\nexit" 2 "L:" = true ∧ refused "exit ;; done" 1 ";;" = true ∧
    refused "ldxw r1 [r2 + #10000]" 1 "#10000" = true ∧ refused "ldxw r1 [r2+#4]" 1 "ldxw" = true := by decide

/-- R116: a bracket that stands alone is the offending token itself; of two bad tokens the left one is reported. -/
theorem test_assembler_refuses_lone_brackets :
    refused "ldxw r1 [ + #4]" 1 "[" = true ∧ refused "ldxw r1 [r2 + ]" 1 "]" = true ∧
    refused "ldxw r1 [r2 ++ #4]" 1 "++" = true ∧ refused "ldxw r1 r2 + #4]" 1 "r2" = true ∧
    refused "ldxw r1 [r2 + #4" 1 "#4" = true ∧ refused "stb [r11 - ] #0" 1 "r11" = true := by decide

/-! ## Witnesses: states and operands that meet the hypotheses of the obligations -/

/-- `mov r0 #5` at slot 0, Running: the state of several witnesses. -/
def moving : State := small 0 [] 0x00000005000000b7

theorem witness_CodecRoundTripsBothWays :
    (∃ opcode dst src offset imm : Int, (0 ≤ opcode ∧ opcode ≤ 255) ∧ (0 ≤ dst ∧ dst ≤ 15) ∧ (0 ≤ src ∧ src ≤ 15) ∧
      (-32768 ≤ offset ∧ offset ≤ 32767) ∧ (0 ≤ imm ∧ imm < 2 ^ 32) ∧
      (opcode, dst, src, offset, imm) = (255, 15, 15, -32768, 2 ^ 32 - 1)) ∧
    (decodeFields 0xdeadbeefcafef00d).toInts = (0x0d, 0, 15, -13570, 0xdeadbeef) :=
  ⟨⟨255, 15, 15, -32768, 2 ^ 32 - 1, by decide⟩, by decide⟩

/-- Each refusal just outside its range, after values at the ends of theirs. -/
theorem witness_EncoderValidatesThenSums :
    ¬ ((0 : Int) ≤ 256 ∧ (256 : Int) ≤ 255) ∧ ¬ ((0 : Int) ≤ -1 ∧ (-1 : Int) ≤ 255) ∧
    ((0 : Int) ≤ 255 ∧ (255 : Int) ≤ 255) ∧ ¬ ((0 : Int) ≤ 16 ∧ (16 : Int) ≤ 15) ∧
    ((0 : Int) ≤ 15 ∧ (15 : Int) ≤ 15) ∧ ¬ ((-32768 : Int) ≤ 32768 ∧ (32768 : Int) ≤ 32767) ∧
    ((-32768 : Int) ≤ -32768 ∧ (-32768 : Int) ≤ 32767) ∧ ¬ ((0 : Int) ≤ 2 ^ 32 ∧ (2 : Int) ^ 32 ≤ 2 ^ 32 - 1) ∧
    ((0 : Int) ≤ 2 ^ 32 - 1 ∧ (2 : Int) ^ 32 - 1 ≤ 2 ^ 32 - 1) := by decide

/-- `add r1 #1` with every ignored bit set; and instructions that leave each field out. -/
theorem witness_UnusedFieldsAreIgnored :
    decode 0x0000000100000107 = .ok (.addImm 1 1) ∧
    (decodeFields 0x000000011234f107).opcode = (decodeFields 0x0000000100000107).opcode ∧
    (decodeFields 0x000000011234f107).dst = (decodeFields 0x0000000100000107).dst ∧
    (decodeFields 0x000000011234f107).imm = (decodeFields 0x0000000100000107).imm ∧
    (Instr.addImm 1 1).form.usesSrc = false ∧ (Instr.addImm 1 1).form.usesOffset = false ∧
    (Instr.addSrc 1 2).form.usesImm = false ∧ (Instr.call 7).form.usesDst = false := by decide

theorem witness_StepRunsDecodedInstruction :
    (small 3 [] 0x00000005000000b7).control = .running ∧ 0 ≤ (small 3 [] 0x00000005000000b7).pc ∧
    (small 3 [] 0x00000005000000b7).program[(small 3 [] 0x00000005000000b7).pc.toNat]? = some 0x00000005000000b7 ∧
    decode 0x00000005000000b7 = .ok (.movImm 0 5) := by decide

/-- Just below the program and just past it. -/
theorem witness_FetchOutsideProgramFaults :
    ({ moving with pc := -1 } : State).pc < 0 ∧
    (({ moving with pc := 1 } : State).program.length : Int) ≤ ({ moving with pc := 1 } : State).pc ∧
    moving.control = .running := by decide

/-- An illegal opcode, and a byte-order opcode with a width it does not have. -/
theorem witness_IllegalWordFaults :
    (small 0 [] 0).program[(small 0 [] 0).pc.toNat]? = some 0 ∧ decode 0 = .error (.illegalOpcode 0) ∧
    (small 0 [] 0x00000008000001dc).program[(small 0 [] 0x00000008000001dc).pc.toNat]? = some 0x00000008000001dc ∧
    decode 0x00000008000001dc = .error (.illegalEndWidth 8) := by decide

theorem witness_NoStepOutsideRunning : State.reset.control = .ready ∧ moving.halt.control = .halted := ⟨rfl, rfl⟩

theorem witness_EveryRunningStepCompletes : moving.control = .running := rfl

theorem witness_EveryFaultIsPrecise :
    (small 0 [(1, 7)] 0x0000000000000137).fault = none ∧
    ∃ t, step (small 0 [(1, 7)] 0x0000000000000137) = .next t ∧ t.fault = some .divideByZero := ⟨rfl, _, rfl, rfl⟩

/-- A `dst` and a `src` just above R10, and the greatest value of the field. -/
theorem witness_UnnamedRegisterFaults :
    ((Instr.addImm 11 0).usedDst = some 11 ∧ 10 < (11 : RegField).toNat) ∧
    ((Instr.addSrc 1 11).usedSrc = some 11) ∧ (Instr.stxb 15 1 0).usedDst = some 15 := by decide

/-- R10 as the register written, with a `src` that is R10 too. -/
theorem witness_WritingFrameRegisterFaults :
    (∀ f, (Instr.divSrc 10 10).usedDst = some f ∨ (Instr.divSrc 10 10).usedSrc = some f → f.toNat ≤ 10) ∧
    (Instr.divSrc 10 10).form.writesDst = true ∧ (Instr.divSrc 10 10).usedDst = some 10 := by decide

/-- A zero divisor; a load, an immediate store and a register store at the first address past the last. -/
theorem witness_OwnFaultsByFamily :
    ((Instr.divImm 1 0).WellFormed = true ∧ moving.fault = none ∧
      ∃ t, exec (.divImm 1 0) moving = .next t ∧ t.fault = some .divideByZero) ∧
    ((Instr.ldxb 2 1 128).WellFormed = true ∧
      ∃ t, exec (.ldxb 2 1 128) moving = .next t ∧ t.fault = some .memOutOfBounds) ∧
    ((Instr.stb 1 128 0).WellFormed = true ∧
      ∃ t, exec (.stb 1 128 0) moving = .next t ∧ t.fault = some .memOutOfBounds) ∧
    ((Instr.stxb 1 2 128).WellFormed = true ∧
      ∃ t, exec (.stxb 1 2 128) moving = .next t ∧ t.fault = some .memOutOfBounds) :=
  ⟨⟨rfl, rfl, _, rfl, rfl⟩, ⟨rfl, _, rfl, rfl⟩, ⟨rfl, _, rfl, rfl⟩, ⟨rfl, _, rfl, rfl⟩⟩

/-- For `EveryStepKeepsInvariant`, `NoStepChangesFrameRegister` and `NoStepChangesProgram`. -/
theorem witness_EveryStepKeepsInvariant : moving.Inv ∧ ∃ t, step moving = .next t :=
  ⟨⟨by decide, by decide, by decide, by decide, by decide, by decide⟩, _, rfl⟩

theorem witness_HostTransactionsKeepInvariant : (State.resetWith fun _ => 0).Inv :=
  ⟨by decide, by decide, by decide, by decide, by decide, by decide⟩

/-- `stb [r10 + #7f] #ff`: the last byte of scratch memory changes. -/
theorem witness_OnlyStoresChangeMemory :
    ∃ t, step (small 0 [] 0x000000ff007f0a72) = .next t ∧
      t.mem.readByte 127 ≠ (small 0 [] 0x000000ff007f0a72).mem.readByte 127 := ⟨_, rfl, by decide⟩

/-- `mov` fetches no load, and memory may be anything. -/
theorem witness_OnlyLoadsReadMemory :
    (∃ t, step moving = .next t) ∧ ∀ i, Fetches moving i → i.form ≠ .ldx := by
  refine ⟨⟨_, rfl⟩, ?_⟩
  rintro i ⟨_, w, hf, hd⟩
  have hw : w = 0x00000005000000b7 := (Except.ok.inj hf).symm
  subst hw
  have hi : i = .movImm 0 5 := (Except.ok.inj hd).symm
  subst hi
  decide

theorem witness_OnlyPacketLoadsReport :
    ∃ t, step (small 0 [] 0x0000000000041020) = .next t ∧ t.unsupCount ≠ (small 0 [] 0x0000000000041020).unsupCount :=
  ⟨_, rfl, by decide⟩

/-- One state for each of the three ways a step can leave the machine. -/
theorem witness_RunningHaltsByExitOrFault :
    (moving.fault = none ∧ ∃ t, step moving = .next t ∧ t.control = .running) ∧
    (∃ t, step (small 0 [] 0x0000000000000095) = .next t ∧ t.HaltedNormally) ∧
    (∃ t, step (small 0 [] 0) = .next t ∧ t.HaltedByFault) :=
  ⟨⟨rfl, _, rfl, rfl⟩, ⟨_, rfl, rfl, rfl⟩, ⟨_, rfl, rfl, Option.some_ne_none _⟩⟩

/-- For every statement whose only hypothesis is that the register written is not R10: `Alu64ImmResults`,
`Alu64SrcResults`, `Shift64Results`, `NegateResults`, `Alu32ImmResults`, `Alu32SrcResults`, `Shift32Results`,
`ByteOrderResults`, `ByteOrderRoundTrips`, `LddwResult`. -/
theorem witness_writable_register : (0 : RegIdx) ≠ frameRegister ∧ (9 : RegIdx) ≠ frameRegister := by decide

/-- The least divisor and the greatest, in each form. -/
theorem witness_DivMod64Results :
    (9 : RegIdx) ≠ frameRegister ∧ sextImm 1 ≠ 0 ∧ sextImm 0xffffffff ≠ 0 ∧
    ((small 0 [(2, 1)] 0).read64 2).toNat % 2 ^ 64 ≠ 0 ∧
    ((small 0 [(2, 0xffffffffffffffff)] 0).read64 2).toNat % 2 ^ 64 ≠ 0 := by decide

/-- The least divisor and the greatest, in each form, the upper half of the register at either extreme. -/
theorem witness_DivMod32Results :
    (9 : RegIdx) ≠ frameRegister ∧ (1 : Imm).toNat ≠ 0 ∧ (0xffffffff : Imm).toNat ≠ 0 ∧
    ((small 0 [(2, 0xffffffff00000001)] 0).read64 2).toNat % 2 ^ 32 ≠ 0 ∧
    ((small 0 [(2, 0xffffffff)] 0).read64 2).toNat % 2 ^ 32 ≠ 0 := by decide

/-- Zero in the width the division uses, with and without bits above it. -/
theorem witness_ZeroDivisorFaults :
    (9 : RegIdx) ≠ frameRegister ∧ ((small 0 [] 0).read64 2).toNat % 2 ^ 64 = 0 ∧
    ((small 0 [(2, 0x100000000)] 0).read64 2).toNat % 2 ^ 32 = 0 := by decide

/-- Two states that agree in the low halves only. -/
theorem witness_Alu32DependsOnLowHalvesOnly :
    (9 : RegIdx) ≠ frameRegister ∧
    (∀ r, ((small 0 [(1, 0xdeadbeef00000007)] 0).read64 r).toNat % 2 ^ 32 =
      ((small 0 [(1, 7)] 0).read64 r).toNat % 2 ^ 32) ∧
    (small 0 [(1, 0xdeadbeef00000007)] 0).read64 1 ≠ (small 0 [(1, 7)] 0).read64 1 := by decide

/-- For `ConditionalJumpsImm` and `ConditionalJumpsSrc`: on either side of the point where each condition turns. -/
theorem witness_ConditionalJumps :
    (0 = sextImm 0 ∧ 1 ≠ sextImm 0) ∧ (2 > sextImm 1 ∧ ¬ 1 > sextImm 1) ∧ (5 ≥ sextImm 5 ∧ ¬ 4 ≥ sextImm 5) ∧
    (0x10 &&& sextImm 0x30 ≠ 0 ∧ ¬ 0x40 &&& sextImm 0x30 ≠ 0) ∧
    (signedOf 64 0 > signedOf 64 (sextImm 0xffffffff) ∧ ¬ signedOf 64 (2 ^ 64 - 1) > signedOf 64 (sextImm 0xffffffff)) ∧
    (signedOf 64 0 ≥ signedOf 64 (sextImm 0) ∧ ¬ signedOf 64 (2 ^ 63) ≥ signedOf 64 (sextImm 0)) := by decide

/-- For `LoadResults`, `StoreImmResults` and `StoreSrcResults`: the first and the last admitted address of each width. -/
theorem witness_admitted_access :
    (9 : RegIdx) ≠ frameRegister ∧ moving.mem.wf ∧ addressOf moving 1 0 = 0 ∧ addressOf moving 1 127 = 127 ∧
    ∀ n ∈ [1, 2, 4, 8], ((0 : Int) ≤ 0 ∧ (0 : Int) + (n : Nat) ≤ 128) ∧
      (0 ≤ addressOf (small 0 [(1, BitVec.ofNat 64 (128 - n))] 0) 1 0 ∧
        addressOf (small 0 [(1, BitVec.ofNat 64 (128 - n))] 0) 1 0 + (n : Nat) ≤ 128) := by decide

/-- The first refused address below scratch memory and the first above, for each width, and one that wraps nowhere. -/
theorem witness_AccessOutsideFaults :
    (9 : RegIdx) ≠ frameRegister ∧ addressOf moving 1 0xffff = -1 ∧
    addressOf (small 0 [(1, 0xffffffffffffffff)] 0) 1 1 = 2 ^ 64 ∧
    ∀ n ∈ [1, 2, 4, 8], ¬ ((0 : Int) ≤ -1 ∧ (-1 : Int) + (n : Nat) ≤ 128) ∧
      ¬ (0 ≤ addressOf (small 0 [(1, BitVec.ofNat 64 (129 - n))] 0) 1 0 ∧
        addressOf (small 0 [(1, BitVec.ofNat 64 (129 - n))] 0) 1 0 + (n : Nat) ≤ 128) := by decide

theorem witness_NarrowReadsSeeWideWrite :
    moving.mem.wf ∧ ((0 : Int) ≤ 0 ∧ (0 : Int) + (8 : Nat) ≤ 128) ∧ ((0 : Int) ≤ 120 ∧ (120 : Int) + (8 : Nat) ≤ 128) ∧
    (7 : Nat) < 8 := by decide

theorem witness_ResetValues : (9 : RegIdx) ≠ frameRegister ∧ 127 < 128 := by decide

theorem witness_RunStartsOnlyFromReady :
    State.reset.control = .ready ∧ ([] : List Word).length ≤ 2 ^ 32 ∧ moving.control ≠ .ready := ⟨rfl, by decide, by decide⟩

theorem witness_AssembledProgramsDecode :
    ∃ prog, assemble "L:\nadd r0 #1\n;; again\nja L".toList = .ok prog ∧ prog.length = 2 :=
  ⟨[0x0000000100000007, 0x00000000fffe0005], by decide, rfl⟩

/-- The farthest label backward and forward, and the label on the jump's own slot. -/
theorem witness_LabelDistanceMatchesJump :
    displacement 0 32767 = -32768 ∧ displacement 32768 0 = 32767 ∧ displacement 1 1 = -1 ∧
    (small 1 [] 0).pc = (1 : Nat) := by decide

end Sys2Proof.Tests
end

section
/-! PROOFS. Family 20_memory.md: fetch outside the program. -/

namespace Sys2Proof.Machine

/-- Fault entry changes `STATE` and `FAULT` only (R270). -/
theorem faulted_takeFault (s : State) (c : Cause) : Faulted s c (takeFault c s) where
  control := takeFault_control s c
  fault := takeFault_fault s c
  regs := State.read64_takeFault c s
  pc := takeFault_pc s c
  mem _ := congrArg (Memory.readByte · _) (takeFault_mem s c)
  unsup := takeFault_unsup s c
  unsupCount := takeFault_unsupCount s c
  program := takeFault_program s c

/-- A Running machine takes the cause its fetch raises (R262, R264). -/
theorem step_of_fetch_error {s : State} {c : Cause} (hrun : s.control = .running) (hfetch : fetch s = .error c) :
    step s = .next (takeFault c s) := by
  simp only [step, hrun, hfetch]

/-- Settles O9: fetch raises exactly where `pc` is no slot of the program, and the step takes what fetch raises. -/
theorem fetchOutsideProgramFaults : Obligations.FetchOutsideProgramFaults := by
  intro s houtside
  have hfetch : fetch s = .error .pcOutOfBounds := (fetch_eq_error_iff s _).2 ⟨by omega, rfl⟩
  exact ⟨hfetch, fun hrun => ⟨_, step_of_fetch_error hrun hfetch, faulted_takeFault s _⟩⟩

end Sys2Proof.Machine
end

section
/-! PROOFS. Family 30_encoding.md: the field split of a word, and register fields that name no register. -/

namespace Sys2Proof.Claims

/-- The spec's signed reading of a pattern (R6) is the two's-complement value of the bit vector, at every width. -/
theorem signedOf_toNat {n : Nat} (v : BitVec n) : signedOf n v.toNat = v.toInt := by
  rw [signedOf, BitVec.toInt_eq_toNat_cond]
  cases n with
  | zero => simp [BitVec.eq_nil v]
  | succ n =>
    have hhalf : v.toNat < 2 ^ n ↔ 2 * v.toNat < 2 ^ (n + 1) := by omega
    simp [hhalf]

end Sys2Proof.Claims

namespace Sys2Proof

open Sys2Proof.Claims

/-! ## The five fields of a word, as numbers (R82) -/

section
variable (w : Word)

theorem decodeFields_opcode_toNat : (decodeFields w).opcode.toNat = w.toNat % 2 ^ 8 := by
  simp [decodeFields]

theorem decodeFields_dst_toNat : (decodeFields w).dst.toNat = w.toNat / 2 ^ 8 % 2 ^ 4 := by
  simp [decodeFields, Nat.shiftRight_eq_div_pow]

theorem decodeFields_src_toNat : (decodeFields w).src.toNat = w.toNat / 2 ^ 12 % 2 ^ 4 := by
  simp [decodeFields, Nat.shiftRight_eq_div_pow]

theorem decodeFields_offset_toNat : (decodeFields w).offset.toNat = w.toNat / 2 ^ 16 % 2 ^ 16 := by
  simp [decodeFields, Nat.shiftRight_eq_div_pow]

theorem decodeFields_offset_toInt : (decodeFields w).offset.toInt = signedOf 16 (w.toNat / 2 ^ 16 % 2 ^ 16) := by
  rw [← signedOf_toNat, decodeFields_offset_toNat]

/-- `imm` is the top of the word, so no bit above it is cut off. -/
theorem decodeFields_imm_toNat : (decodeFields w).imm.toNat = w.toNat / 2 ^ 32 := by
  have hword : w.toNat / 2 ^ 32 < 2 ^ 32 := by omega
  simpa [decodeFields, Nat.shiftRight_eq_div_pow] using hword

end

/-- Settles O2: field by field. -/
theorem decodeSplitsFields : Obligations.DecodeSplitsFields := by
  intro w
  simp only [Fields.toInts, decodeFields_opcode_toNat, decodeFields_dst_toNat, decodeFields_src_toNat,
    decodeFields_offset_toInt, decodeFields_imm_toNat]

end Sys2Proof

namespace Sys2Proof.Machine

/-! ## The prologue of every instruction -/

theorem usedReg_of_unnamed {f : RegField} (hf : 10 < f.toNat) : usedReg f = .error .invalidRegister :=
  (usedReg_eq_error_iff f _).2 ⟨hf, rfl⟩

/-- An unnamed `dst` stops the prologue of a form that writes `dst` (R266, before R267). -/
theorem writesDst_of_unnamed {dst : RegField} (hdst : 10 < dst.toNat) :
    writesDst dst = .error .invalidRegister :=
  (bind_eq_error_iff _ _ _).2 (.inl (usedReg_of_unnamed hdst))

/-- With either field unnamed, testing `dst` and then `src` raises `InvalidRegister`, whatever was to follow (R262). -/
theorem usedRegs_bind_of_unnamed {α : Type} {dst src : RegField} (rest : RegIdx → RegIdx → Except Cause α)
    (h : 10 < dst.toNat ∨ 10 < src.toNat) :
    (usedReg dst >>= fun d => usedReg src >>= fun r => rest d r) = .error .invalidRegister := by
  by_cases hdst : 10 < dst.toNat
  · rw [usedReg_of_unnamed hdst]; rfl
  · have hd : usedReg dst = .ok ⟨dst.toNat, by omega⟩ := (usedReg_eq_ok_iff _ _).2 rfl
    rw [hd, usedReg_of_unnamed (h.resolve_left hdst)]; rfl

theorem writesDstReadsSrc_of_unnamed {dst src : RegField} (h : 10 < dst.toNat ∨ 10 < src.toNat) :
    writesDstReadsSrc dst src = .error .invalidRegister := usedRegs_bind_of_unnamed _ h

theorem readsDstSrc_of_unnamed {dst src : RegField} (h : 10 < dst.toNat ∨ 10 < src.toNat) :
    readsDstSrc dst src = .error .invalidRegister := usedRegs_bind_of_unnamed _ h

/-- How `exec i s` begins: one of the five prologues that the forms of R90 have between them, on exactly the register
fields that `i` uses, and then a rule (R262, tests 4 and 5). -/
inductive BeginsWithPrologue (i : Instr) (s : State) : Prop
  | usesNone (t : State) (hd : i.usedDst = none) (hs : i.usedSrc = none) (hw : i.form.writesDst = false)
      (hexec : exec i s = settle s (.ok t))
  | writes (dst : RegField) (rule : RegIdx → Except Cause State) (hd : i.usedDst = some dst)
      (hs : i.usedSrc = none) (hw : i.form.writesDst = true) (hexec : exec i s = settle s (writesDst dst >>= rule))
  | reads (dst : RegField) (rule : RegIdx → Except Cause State) (hd : i.usedDst = some dst)
      (hs : i.usedSrc = none) (hw : i.form.writesDst = false) (hexec : exec i s = settle s (usedReg dst >>= rule))
  | writesReads (dst src : RegField) (rule : RegIdx × RegIdx → Except Cause State) (hd : i.usedDst = some dst)
      (hs : i.usedSrc = some src) (hw : i.form.writesDst = true)
      (hexec : exec i s = settle s (writesDstReadsSrc dst src >>= rule))
  | readsBoth (dst src : RegField) (rule : RegIdx × RegIdx → Except Cause State) (hd : i.usedDst = some dst)
      (hs : i.usedSrc = some src) (hw : i.form.writesDst = false)
      (hexec : exec i s = settle s (readsDstSrc dst src >>= rule))

/-- Every instruction runs its form's prologue before its rule (R262): the instructions, grouped by their prologue. -/
theorem exec_beginsWithPrologue (i : Instr) (s : State) : BeginsWithPrologue i s := by
  cases i with
  | ja | call | exit | ldabsw | ldabsh | ldabsb | ldabsdw | ldindw | ldindh | ldindb | ldinddw =>
    exact .usesNone _ rfl rfl rfl rfl
  | addImm | subImm | mulImm | divImm | orImm | andImm | lshImm | rshImm | modImm | xorImm | movImm | arshImm | neg
  | add32Imm | sub32Imm | mul32Imm | div32Imm | or32Imm | and32Imm | lsh32Imm | rsh32Imm | mod32Imm | xor32Imm
  | mov32Imm | arsh32Imm | neg32 | le16 | le32 | le64 | be16 | be32 | be64 | lddw =>
    exact .writes _ _ rfl rfl rfl rfl
  | jeqImm | jgtImm | jgeImm | jsetImm | jneImm | jsgtImm | jsgeImm | stw | sth | stb | stdw =>
    exact .reads _ _ rfl rfl rfl rfl
  | addSrc | subSrc | mulSrc | divSrc | orSrc | andSrc | lshSrc | rshSrc | modSrc | xorSrc | movSrc | arshSrc
  | add32Src | sub32Src | mul32Src | div32Src | or32Src | and32Src | lsh32Src | rsh32Src | mod32Src | xor32Src
  | mov32Src | arsh32Src | ldxw | ldxh | ldxb | ldxdw =>
    exact .writesReads _ _ _ rfl rfl rfl rfl
  | jeqSrc | jgtSrc | jgeSrc | jsetSrc | jneSrc | jsgtSrc | jsgeSrc | stxw | stxh | stxb | stxdw =>
    exact .readsBoth _ _ _ rfl rfl rfl rfl

/-- What a prologue raises, the instruction takes, on the state before it: its rule does not run (R262, R270). -/
theorem settle_bind_of_error {α : Type} {p : Except Cause α} {c : Cause} (s : State) (rule : α → Except Cause State)
    (hp : p = .error c) : settle s (p >>= rule) = .next (takeFault c s) := by
  rw [hp]; rfl

theorem exec_of_unnamed {i : Instr} {f : RegField} (s : State) (hused : i.usedDst = some f ∨ i.usedSrc = some f)
    (hf : 10 < f.toNat) : exec i s = .next (takeFault .invalidRegister s) := by
  cases exec_beginsWithPrologue i s with
  | usesNone t hd hs => simp [hd, hs] at hused
  | writes dst rule hd hs _ hexec =>
    obtain rfl : dst = f := by simpa [hd, hs] using hused
    rw [hexec, settle_bind_of_error s rule (writesDst_of_unnamed hf)]
  | reads dst rule hd hs _ hexec =>
    obtain rfl : dst = f := by simpa [hd, hs] using hused
    rw [hexec, settle_bind_of_error s rule (usedReg_of_unnamed hf)]
  | writesReads dst src rule hd hs _ hexec =>
    have hone : dst = f ∨ src = f := by simpa [hd, hs] using hused
    rw [hexec, settle_bind_of_error s rule (writesDstReadsSrc_of_unnamed (hone.imp (· ▸ hf) (· ▸ hf)))]
  | readsBoth dst src rule hd hs _ hexec =>
    have hone : dst = f ∨ src = f := by simpa [hd, hs] using hused
    rw [hexec, settle_bind_of_error s rule (readsDstSrc_of_unnamed (hone.imp (· ▸ hf) (· ▸ hf)))]

/-- Settles O14: the prologue tests the fields before anything else, and what it raises is what the machine takes. -/
theorem unnamedRegisterFaults : Obligations.UnnamedRegisterFaults := by
  rintro i s ⟨f, hused, hf⟩
  exact ⟨_, exec_of_unnamed s hused hf, faulted_takeFault s _⟩

end Sys2Proof.Machine
end

section
/-! PROOFS. Family 60_exceptions.md: accesses outside scratch memory. -/

namespace Sys2Proof.Machine

open Sys2Proof.Claims

/-! ## The prologues on fields that name a register -/

theorem usedReg_field (d : RegIdx) : usedReg (field d) = .ok d := usedReg_ofNat d

theorem field_toNat (d : RegIdx) : (field d).toNat = d.val := (usedReg_eq_ok_iff _ _).1 (usedReg_field d)

theorem writesDstReadsSrc_field {d : RegIdx} (hd : d ≠ frameRegister) (r : RegIdx) :
    writesDstReadsSrc (field d) (field r) = .ok (d, r) :=
  (writesDstReadsSrc_eq_ok_iff _ _ _ _).2 ⟨field_toNat d, field_toNat r, hd⟩

theorem readsDstSrc_field (d r : RegIdx) : readsDstSrc (field d) (field r) = .ok (d, r) :=
  (readsDstSrc_eq_ok_iff _ _ _ _).2 ⟨field_toNat d, field_toNat r⟩

/-! ## An access that the bounds check refuses (R53, R269) -/

section
variable {w : Width} {base : RegIdx} {offset : Offset} {s : State}

theorem memRead_of_not_admitted (h : ¬ Admitted (addressOf s base offset) w.bytes) :
    memRead w (effectiveAddress (s.read64 base) offset) s = .error .memOutOfBounds :=
  (memRead_eq_error_iff _ _ _ _).2 ⟨h, rfl⟩

theorem memWrite_of_not_admitted (h : ¬ Admitted (addressOf s base offset) w.bytes) (v : Word) :
    memWrite w (effectiveAddress (s.read64 base) offset) v s = .error .memOutOfBounds :=
  (memWrite_eq_error_iff _ _ _ _ _).2 ⟨h, rfl⟩

/-- The form passes its prologue, and its read raises before `dst` is written. -/
theorem loadReg_of_not_admitted {d : RegIdx} (hd : d ≠ frameRegister)
    (h : ¬ Admitted (addressOf s base offset) w.bytes) :
    loadReg w (field d) (field base) offset s = .error .memOutOfBounds :=
  (bind_eq_error_iff _ _ _).2 <| .inr ⟨_, writesDstReadsSrc_field hd base,
    (bind_eq_error_iff _ _ _).2 (.inl (memRead_of_not_admitted h))⟩

theorem storeImm_of_not_admitted (h : ¬ Admitted (addressOf s base offset) w.bytes) (v : Word) :
    storeImm w v (field base) offset s = .error .memOutOfBounds :=
  (bind_eq_error_iff _ _ _).2 <| .inr ⟨_, usedReg_field base,
    (bind_eq_error_iff _ _ _).2 (.inl (memWrite_of_not_admitted h v))⟩

theorem storeReg_of_not_admitted (h : ¬ Admitted (addressOf s base offset) w.bytes) (r : RegIdx) :
    storeReg w (field base) (field r) offset s = .error .memOutOfBounds :=
  (bind_eq_error_iff _ _ _).2 <| .inr ⟨_, readsDstSrc_field base r,
    (bind_eq_error_iff _ _ _).2 (.inl (memWrite_of_not_admitted h _))⟩

end

/-! ## What the refusal makes of the instruction, one lemma for each of the three forms (R270) -/

/-- The cause a rule raises is the fault the machine takes, on the state before the rule. -/
theorem settle_faulted {s : State} {c : Cause} {rule : Except Cause State} (hrule : rule = .error c) :
    ∃ t, settle s rule = .next t ∧ Faulted s c t :=
  ⟨_, (settle_next_iff _ _ _).2 (.inr ⟨c, hrule, rfl⟩), faulted_takeFault s c⟩

theorem loadOutside_of_exec {i : RegField → RegField → Offset → Instr} (w : Width)
    (hexec : ∀ dst src offset s, exec (i dst src offset) s = settle s (loadReg w dst src offset s)) :
    LoadOutside i w.bytes := by
  intro d base offset s hd houtside
  rw [hexec]
  exact settle_faulted (loadReg_of_not_admitted hd houtside)

theorem storeImmOutside_of_exec {i : RegField → Offset → Imm → Instr} (w : Width) (value : Imm → Word)
    (hexec : ∀ dst offset imm s, exec (i dst offset imm) s = settle s (storeImm w (value imm) dst offset s)) :
    StoreImmOutside i w.bytes := by
  intro base offset imm s houtside
  rw [hexec]
  exact settle_faulted (storeImm_of_not_admitted houtside _)

theorem storeSrcOutside_of_exec {i : RegField → RegField → Offset → Instr} (w : Width)
    (hexec : ∀ dst src offset s, exec (i dst src offset) s = settle s (storeReg w dst src offset s)) :
    StoreSrcOutside i w.bytes := by
  intro base r offset s houtside
  rw [hexec]
  exact settle_faulted (storeReg_of_not_admitted houtside r)

/-- Settles O49: each of the twelve is its form's rule at one width, and the bounds check refuses the access before the
rule changes anything. -/
theorem accessOutsideFaults : Obligations.AccessOutsideFaults := by
  refine ⟨loadOutside_of_exec .byte ?_, loadOutside_of_exec .half ?_, loadOutside_of_exec .word ?_,
    loadOutside_of_exec .dword ?_,
    storeImmOutside_of_exec .byte zext64 ?_, storeImmOutside_of_exec .half zext64 ?_,
    storeImmOutside_of_exec .word zext64 ?_, storeImmOutside_of_exec .dword ext64 ?_,
    storeSrcOutside_of_exec .byte ?_, storeSrcOutside_of_exec .half ?_, storeSrcOutside_of_exec .word ?_,
    storeSrcOutside_of_exec .dword ?_⟩
  all_goals exact fun _ _ _ _ => rfl

end Sys2Proof.Machine
end

section
/-! PROOFS. Family other: the codec of five fields (R81 to R84). -/

namespace Sys2Proof

/-! ## Words as sums of their fields (R81, R83) -/

theorem toNat_append_eq_add {m n : Nat} (x : BitVec m) (y : BitVec n) :
    (x ++ y).toNat = x.toNat * 2 ^ n + y.toNat := by
  rw [BitVec.toNat_append, ← Nat.shiftLeft_add_eq_or_of_lt y.isLt, Nat.shiftLeft_eq]

/-- The word of five fields is their sum, each shifted to its place (R83). -/
theorem encodeFields_toNat (f : Fields) :
    (encodeFields f).toNat = f.opcode.toNat + f.dst.toNat * 2 ^ 8 + f.src.toNat * 2 ^ 12 +
      f.offset.toNat * 2 ^ 16 + f.imm.toNat * 2 ^ 32 := by
  simp only [encodeFields, toNat_append_eq_add]
  omega

@[simp] theorem decodeFields_encodeFields (f : Fields) : decodeFields (encodeFields f) = f := by
  obtain ⟨opcode, dst, src, offset, imm⟩ := f
  have hword := encodeFields_toNat ⟨opcode, dst, src, offset, imm⟩
  dsimp only at hword
  rw [Fields.mk.injEq]
  refine ⟨?_, ?_, ?_, ?_, ?_⟩ <;> apply BitVec.eq_of_toNat_eq
  · rw [decodeFields_opcode_toNat]; omega
  · rw [decodeFields_dst_toNat]; omega
  · rw [decodeFields_src_toNat]; omega
  · rw [decodeFields_offset_toNat]; omega
  · rw [decodeFields_imm_toNat]; omega

@[simp] theorem encodeFields_decodeFields (w : Word) : encodeFields (decodeFields w) = w := by
  apply BitVec.eq_of_toNat_eq
  rw [encodeFields_toNat, decodeFields_opcode_toNat, decodeFields_dst_toNat, decodeFields_src_toNat,
    decodeFields_offset_toNat, decodeFields_imm_toNat]
  omega

/-! ## The encoder of five integers (R83) -/

/-- The integers of any five fields pass the encoder's tests. -/
theorem encodeInts_toInts (f : Fields) :
    encodeInts f.opcode.toNat f.dst.toNat f.src.toNat f.offset.toInt f.imm.toNat = .ok (encodeFields f) := by
  have hlo := BitVec.le_toInt f.offset
  have hhi := BitVec.toInt_lt (x := f.offset)
  unfold encodeInts
  rw [if_neg (by omega), if_neg (by omega), if_neg (by omega), if_neg (by omega), if_neg (by omega)]
  simp only [BitVec.ofInt_natCast, BitVec.ofNat_toNat, BitVec.setWidth_eq, BitVec.ofInt_toInt]

/-- Integers in the ranges of R83 are those of five fields. -/
theorem exists_toInts_eq {opcode dst src offset imm : Int} (hopcode : 0 ≤ opcode ∧ opcode ≤ 255)
    (hdst : 0 ≤ dst ∧ dst ≤ 15) (hsrc : 0 ≤ src ∧ src ≤ 15) (hoffset : -32768 ≤ offset ∧ offset ≤ 32767)
    (himm : 0 ≤ imm ∧ imm < 2 ^ 32) : ∃ f : Fields, f.toInts = (opcode, dst, src, offset, imm) := by
  refine ⟨⟨.ofInt 8 opcode, .ofInt 4 dst, .ofInt 4 src, .ofInt 16 offset, .ofInt 32 imm⟩, ?_⟩
  simp only [Fields.toInts, BitVec.toNat_ofInt, BitVec.toInt_ofInt, Prod.mk.injEq]
  refine ⟨by omega, by omega, by omega, ?_, by omega⟩
  exact Int.bmod_eq_of_le (by omega) (by omega)

/-- Settles O3: both directions go through the five fields, on which the codec is a bijection. -/
theorem codecRoundTripsBothWays : Obligations.CodecRoundTripsBothWays := by
  constructor
  · intro opcode dst src offset imm hopcode hdst hsrc hoffset himm
    obtain ⟨f, hf⟩ := exists_toInts_eq hopcode hdst hsrc hoffset himm
    refine ⟨encodeFields f, ?_, by rw [decodeFields_encodeFields, hf]⟩
    cases hf
    exact encodeInts_toInts f
  · intro w opcode dst src offset imm hw
    cases hw
    rw [encodeInts_toInts, encodeFields_decodeFields]

/-- Settles O4: the refusals are the encoder's tests in their order; past them the word is that of five fields. -/
theorem encoderValidatesThenSums : Obligations.EncoderValidatesThenSums := by
  intro opcode dst src offset imm okOpcode okDst okSrc okOffset okImm
  refine ⟨fun h => ?_, fun h1 h => ?_, fun h1 h2 h => ?_, fun h1 h2 h3 h => ?_, fun h1 h2 h3 h4 h => ?_,
    fun h1 h2 h3 h4 h5 => ?_⟩
  · exact if_pos h
  · rw [encodeInts, if_neg (not_not.2 h1), if_pos h]
  · rw [encodeInts, if_neg (not_not.2 h1), if_neg (not_not.2 h2), if_pos h]
  · rw [encodeInts, if_neg (not_not.2 h1), if_neg (not_not.2 h2), if_neg (not_not.2 h3), if_pos h]
  · rw [encodeInts, if_neg (not_not.2 h1), if_neg (not_not.2 h2), if_neg (not_not.2 h3), if_neg (not_not.2 h4),
      if_pos h]
  · obtain ⟨f, hf⟩ := exists_toInts_eq h1 h2 h3 h4 ⟨h5.1, by omega⟩
    have hoffset : (f.offset.toNat : Int) = f.offset.toInt % 2 ^ 16 := by
      rw [BitVec.toInt_eq_toNat_cond]; split <;> omega
    cases hf
    exact ⟨_, encodeInts_toInts f, by rw [encodeFields_toNat, ← hoffset]; push_cast; rfl⟩

end Sys2Proof
end

section
/-! PROOFS. Family other: words and instructions (R89 to R93). -/

namespace Sys2Proof

open Sys2Proof.Machine

/-! ## From an instruction to its word and back -/

/-- Settles O1: the fields survive the word, and the opcode map inverts `Instr.fields`, constructor by constructor. -/
theorem decodeOfEncodeIsIdentity : Obligations.DecodeOfEncodeIsIdentity := by
  intro i
  rw [decode, encode, decodeFields_encodeFields]
  cases i <;> rfl

/-! ## Which fields select an instruction -/

/-- `g` with the opcode of `i`, and with the fields of `i` where its form uses them (R90). -/
def Instr.fieldsOver (i : Instr) (g : Fields) : Fields where
  opcode := i.opcode
  dst := bif i.form.usesDst then i.fields.dst else g.dst
  src := bif i.form.usesSrc then i.fields.src else g.src
  offset := bif i.form.usesOffset then i.fields.offset else g.offset
  imm := bif i.form.usesImm then i.fields.imm else g.imm

theorem selectInstr_fieldsOver (i : Instr) (g : Fields) : selectInstr (i.fieldsOver g) = .ok i := by
  cases i <;> rfl

theorem fields_eq_fieldsOver (i : Instr) : i.fields = i.fieldsOver ⟨0, 0, 0, 0, 0⟩ := by
  cases i <;> rfl

theorem fieldsOver_eq_self {f : Fields} {i : Instr} (hopcode : f.opcode.toNat = i.opcode.toNat)
    (hused : i.fieldsOver f = { f with opcode := i.opcode }) : i.fieldsOver f = f := by
  rw [hused, ← BitVec.eq_of_toNat_eq hopcode]

theorem selectEndWidth_eq_ok_iff (imm : Imm) (of16 of32 of64 i : Instr) :
    selectEndWidth imm of16 of32 of64 = .ok i ↔
      imm = 16 ∧ of16 = i ∨ imm = 32 ∧ of32 = i ∨ imm = 64 ∧ of64 = i := by
  simp only [← BitVec.toNat_inj]
  unfold selectEndWidth
  split <;> simp_all

theorem selectEndWidth_eq_error_iff (imm : Imm) (of16 of32 of64 : Instr) :
    (∃ e, selectEndWidth imm of16 of32 of64 = .error e) ↔ imm ≠ 16 ∧ imm ≠ 32 ∧ imm ≠ 64 := by
  simp only [ne_eq, ← BitVec.toNat_inj]
  unfold selectEndWidth
  split <;> simp_all

/-- Fields that select an instruction hold its opcode and its used fields. -/
theorem fieldsOver_of_selectInstr {f : Fields} {i : Instr} (h : selectInstr f = .ok i) : i.fieldsOver f = f := by
  obtain ⟨opcode, dst, src, offset, imm⟩ := f
  unfold selectInstr at h
  split at h
  case h_91 => cases h
  case h_89 hopcode | h_90 hopcode =>
    rcases (selectEndWidth_eq_ok_iff _ _ _ _ _).1 h with ⟨himm, rfl⟩ | ⟨himm, rfl⟩ | ⟨himm, rfl⟩ <;>
    · cases himm
      exact fieldsOver_eq_self hopcode rfl
  all_goals
    cases h
    exact fieldsOver_eq_self (by assumption) rfl

theorem selectInstr_eq_ok_iff (f : Fields) (i : Instr) : selectInstr f = .ok i ↔ i.fieldsOver f = f :=
  ⟨fieldsOver_of_selectInstr, fun h => h ▸ selectInstr_fieldsOver i f⟩

theorem opcode_mem_legalOpcodes (i : Instr) : i.opcode ∈ legalOpcodes := by
  rw [← List.contains_iff_mem]
  cases i <;> rfl

/-- A legal opcode other than the two of the byte-order family selects an instruction whatever the other fields hold. -/
theorem selectInstr_of_legal {opcode : BitVec 8} (hlegal : opcode ∈ legalOpcodes) (hle : opcode ≠ 0xd4)
    (hbe : opcode ≠ 0xdc) (dst src : RegField) (offset : Offset) (imm : Imm) :
    ∃ i, selectInstr ⟨opcode, dst, src, offset, imm⟩ = .ok i := by
  fin_cases hlegal
  -- the list ends with the two bytes of the byte-order family
  rotate_left 88
  · exact absurd rfl hle
  · exact absurd rfl hbe
  all_goals exact ⟨_, rfl⟩

theorem decode_eq_ok_iff (w : Word) (i : Instr) :
    decode w = .ok i ↔ i.fieldsOver (decodeFields w) = decodeFields w :=
  selectInstr_eq_ok_iff _ i

theorem eq_fieldsOver_iff (f : Fields) (i : Instr) : i.fieldsOver f = f ↔
    f.opcode = i.opcode ∧ (i.form.usesDst = true → f.dst = i.fields.dst) ∧
    (i.form.usesSrc = true → f.src = i.fields.src) ∧ (i.form.usesOffset = true → f.offset = i.fields.offset) ∧
    (i.form.usesImm = true → f.imm = i.fields.imm) := by
  obtain ⟨opcode, dst, src, offset, imm⟩ := f
  simp only [Instr.fieldsOver, Fields.mk.injEq, Bool.cond_eq_ite, ite_eq_right_iff, @eq_comm _ opcode, @eq_comm _ dst,
    @eq_comm _ src, @eq_comm _ offset, @eq_comm _ imm]

/-- Settles O5: a word decodes to `i` exactly when it holds the opcode and the used fields of `i`, and the encoder fills
the other fields from a word of zeros. -/
theorem unusedFieldsAreIgnored : Obligations.UnusedFieldsAreIgnored := by
  constructor
  · intro w w' i hw hopcode hdst hsrc hoffset himm
    obtain ⟨eopcode, edst, esrc, eoffset, eimm⟩ := (eq_fieldsOver_iff _ _).1 ((decode_eq_ok_iff _ _).1 hw)
    refine (decode_eq_ok_iff _ _).2 ((eq_fieldsOver_iff _ _).2 ⟨hopcode.trans eopcode, ?_, ?_, ?_, ?_⟩)
    · exact fun h => (hdst h).trans (edst h)
    · exact fun h => (hsrc h).trans (esrc h)
    · exact fun h => (hoffset h).trans (eoffset h)
    · exact fun h => (himm h).trans (eimm h)
  · intro i
    rw [encode, decodeFields_encodeFields, fields_eq_fieldsOver]
    refine ⟨?_, ?_, ?_, ?_⟩ <;>
    · intro h
      rw [Instr.fieldsOver, h]
      rfl

theorem selectInstr_le (dst src : RegField) (offset : Offset) (imm : Imm) :
    selectInstr ⟨0xd4, dst, src, offset, imm⟩ = selectEndWidth imm (.le16 dst) (.le32 dst) (.le64 dst) := rfl

theorem selectInstr_be (dst src : RegField) (offset : Offset) (imm : Imm) :
    selectInstr ⟨0xdc, dst, src, offset, imm⟩ = selectEndWidth imm (.be16 dst) (.be32 dst) (.be64 dst) := rfl

theorem opcode_legal_of_selectInstr {f : Fields} {i : Instr} (h : selectInstr f = .ok i) : f.opcode ∈ legalOpcodes := by
  rw [← fieldsOver_of_selectInstr h]
  exact opcode_mem_legalOpcodes i

/-- Fields that select no instruction (R92, R93). -/
theorem selectInstr_eq_error_iff (f : Fields) : (∃ e, selectInstr f = .error e) ↔
    f.opcode ∉ legalOpcodes ∨
      ((f.opcode = 0xd4 ∨ f.opcode = 0xdc) ∧ f.imm ≠ 16 ∧ f.imm ≠ 32 ∧ f.imm ≠ 64) := by
  obtain ⟨opcode, dst, src, offset, imm⟩ := f
  by_cases hle : opcode = 0xd4
  · subst hle
    rw [selectInstr_le, selectEndWidth_eq_error_iff]
    simp [legalOpcodes]
  by_cases hbe : opcode = 0xdc
  · subst hbe
    rw [selectInstr_be, selectEndWidth_eq_error_iff]
    simp [legalOpcodes]
  have hother : ¬ (opcode = 0xd4 ∨ opcode = 0xdc) := not_or.2 ⟨hle, hbe⟩
  simp only [hother, false_and, or_false]
  constructor
  · rintro ⟨e, he⟩ hlegal
    obtain ⟨i, hi⟩ := selectInstr_of_legal hlegal hle hbe dst src offset imm
    simp [hi] at he
  · intro hillegal
    cases hsel : selectInstr ⟨opcode, dst, src, offset, imm⟩ with
    | error e => exact ⟨e, rfl⟩
    | ok i => exact absurd (opcode_legal_of_selectInstr hsel) hillegal

/-- Settles O6: the statement about the fields, on the fields of the word. -/
theorem illegalWordsAreExactlyThese : Obligations.IllegalWordsAreExactlyThese :=
  fun w => selectInstr_eq_error_iff (decodeFields w)

/-- Settles O7: by evaluating the decoder on each of the eleven words. -/
theorem decodesWordsOfTheSpec : Obligations.DecodesWordsOfTheSpec := by
  refine ⟨?_, ?_, ?_, ?_, ?_, ?_, ?_, ?_, ?_, ?_, ?_⟩
  all_goals rfl

end Sys2Proof
end

section
/-! PROOFS. Family other: what each instruction can do, and what therefore every step keeps. -/

namespace Sys2Proof.Machine

open Sys2Proof.Claims

/-! ## The changes an instruction makes -/

/-- What an instruction that raises no cause does to the state: one of the five ends of the rules in spec/40 to 47. -/
inductive Change where
  /-- A register takes a value, and `pc` advances. -/
  | write (d : RegIdx) (v : Word)
  /-- `pc` takes a value. -/
  | goto (target : Int)
  /-- The normal halt. -/
  | halt
  /-- The low `n` bytes of `v` go to memory from `a` up, and `pc` advances. -/
  | store (a : Nat) (v : Word) (n : Nat)
  /-- A packet load is reported, and `pc` advances. -/
  | report

def Change.apply : Change → State → State
  | .write d v, s => (s.write64 d v).advance
  | .goto target, s => s.goto target
  | .halt, s => s.halt
  | .store a v n, s => State.advance { s with mem := s.mem.writeLE a v n }
  | .report, s => s.reportUnsupported.advance

/-- From `s`, instruction `i` may make this change. -/
def Change.Allowed (i : Instr) (s : State) : Change → Prop
  | .write d _ => d ≠ frameRegister
  | .goto target => target = s.pc + 1 ∨ (∃ offset, target = s.jumpTarget offset) ∨ ∃ imm : Imm, target = imm.toNat
  | .halt => i = .exit
  | .store a _ n => (i.form = .st ∨ i.form = .stx) ∧ a + n ≤ 128
  | .report => i.form = .pkt

/-- The causes that `i` can raise past its register checks (R280). -/
def OwnCause (i : Instr) (c : Cause) : Prop :=
  (c = .divideByZero ∧ i.opcode ∈ [0x37, 0x3f, 0x97, 0x9f, 0x34, 0x3c, 0x94, 0x9c]) ∨
  (c = .memOutOfBounds ∧ (i.form = .ldx ∨ i.form = .st ∨ i.form = .stx))

/-- `plan` is the whole meaning of `i`: `exec` makes the change it answers, or takes the cause it raises. -/
structure Plan (i : Instr) (plan : State → Except Cause Change) : Prop where
  exec_eq : ∀ s, exec i s = settle s ((·.apply s) <$> plan s)
  allowed : ∀ s ch, plan s = .ok ch → ch.Allowed i s
  ownCause : ∀ s c, plan s = .error c → i.WellFormed = true → OwnCause i c
  memFree : i.form ≠ .ldx → ∀ s m, plan { s with mem := m } = plan s

/-! ## Well-formed instructions pass their prologues -/

theorem wellFormed_iff (i : Instr) : i.WellFormed = true ↔
    (∀ f, i.usedDst = some f → f.toNat ≤ 10) ∧ (∀ f, i.usedSrc = some f → f.toNat ≤ 10) ∧
      (i.form.writesDst = true → i.usedDst ≠ some 10) := by
  simp [Instr.WellFormed, Instr.registersNamed, RegField.named, Instr.keepsFrameRegister, Option.all_eq_true,
    and_assoc, imp_iff_not_or]

section
variable {i : Instr} {dst src : RegField} (hwf : i.WellFormed = true)
include hwf

theorem dst_named_of_wellFormed (hd : i.usedDst = some dst) : dst.toNat < 11 :=
  Nat.lt_succ_of_le (((wellFormed_iff i).1 hwf).1 dst hd)

theorem src_named_of_wellFormed (hs : i.usedSrc = some src) : src.toNat < 11 :=
  Nat.lt_succ_of_le (((wellFormed_iff i).1 hwf).2.1 src hs)

theorem dst_writable_of_wellFormed (hd : i.usedDst = some dst) (hw : i.form.writesDst = true) : dst ≠ 10 :=
  fun h => ((wellFormed_iff i).1 hwf).2.2 hw (h ▸ hd)

theorem writesDst_of_wellFormed (hd : i.usedDst = some dst) (hw : i.form.writesDst = true) :
    ∃ d, writesDst dst = .ok d := by
  refine ⟨⟨dst.toNat, dst_named_of_wellFormed hwf hd⟩, (writesDst_eq_ok_iff _ _).2 ⟨rfl, ?_⟩⟩
  have hne := dst_writable_of_wellFormed hwf hd hw
  simp only [frameRegister, ne_eq, Fin.ext_iff]
  exact fun h => hne (BitVec.eq_of_toNat_eq h)

theorem writesDstReadsSrc_of_wellFormed (hd : i.usedDst = some dst) (hs : i.usedSrc = some src)
    (hw : i.form.writesDst = true) : ∃ p, writesDstReadsSrc dst src = .ok p := by
  obtain ⟨d, h⟩ := writesDst_of_wellFormed hwf hd hw
  obtain ⟨hdst, hne⟩ := (writesDst_eq_ok_iff _ _).1 h
  exact ⟨(d, ⟨src.toNat, src_named_of_wellFormed hwf hs⟩), (writesDstReadsSrc_eq_ok_iff _ _ _ _).2 ⟨hdst, rfl, hne⟩⟩

theorem usedReg_of_wellFormed (hd : i.usedDst = some dst) : ∃ d, usedReg dst = .ok d :=
  ⟨⟨dst.toNat, dst_named_of_wellFormed hwf hd⟩, (usedReg_eq_ok_iff _ _).2 rfl⟩

theorem readsDstSrc_of_wellFormed (hd : i.usedDst = some dst) (hs : i.usedSrc = some src) :
    ∃ p, readsDstSrc dst src = .ok p :=
  ⟨(⟨dst.toNat, dst_named_of_wellFormed hwf hd⟩, ⟨src.toNat, src_named_of_wellFormed hwf hs⟩),
    (readsDstSrc_eq_ok_iff _ _ _ _).2 ⟨rfl, rfl⟩⟩

end

/-! ## A plan from a prologue and what follows it -/

section
variable {i : Instr} {α : Type} {prologue : Except Cause α}

/-- A prologue that a well-formed instruction passes, and then a change chosen from what the prologue answers. -/
theorem Plan.of_prologue (body : α → State → Except Cause Change)
    (hwf : i.WellFormed = true → ∃ a, prologue = .ok a)
    (hexec : ∀ s, exec i s = settle s ((·.apply s) <$> (prologue >>= (body · s))))
    (hallowed : ∀ a s ch, prologue = .ok a → body a s = .ok ch → ch.Allowed i s)
    (hcause : ∀ a s c, body a s = .error c → OwnCause i c)
    (hmem : i.form ≠ .ldx → ∀ a s m, body a { s with mem := m } = body a s) :
    Plan i fun s => prologue >>= (body · s) where
  exec_eq := hexec
  allowed s ch h := by
    obtain ⟨a, hp, hb⟩ := (bind_eq_ok_iff _ _ _).1 h
    exact hallowed a s ch hp hb
  ownCause s c h hi := by
    obtain ⟨a, hp⟩ := hwf hi
    rcases (bind_eq_error_iff _ _ _).1 h with h | ⟨b, -, hb⟩
    · simp [hp] at h
    · exact hcause b s c hb
  memFree hi s m := by
    simp only [hmem hi]

end

/-! ## The register-writing forms -/

/-- After its prologue, `i` writes `value` to the register `target`, and `pc` advances: the common shape of every form
that writes `dst`. -/
def Writes {α : Type} (i : Instr) (prologue : Except Cause α) (target : α → RegIdx)
    (value : α → State → Except Cause Word) : Prop :=
  ∀ s, exec i s = settle s (prologue >>= fun a => (fun v => (s.write64 (target a) v).advance) <$> value a s)

section
variable {i : Instr} {dst src : RegField} {imm : Imm}

theorem writes_of_alu64Imm {op : Word → Word → Except Cause Word}
    (h : ∀ s, exec i s = settle s (alu64Imm op dst imm s)) :
    Writes i (writesDst dst) id fun d s => op (s.read64 d) (ext64 imm) := h

theorem writes_of_alu64Src {op : Word → Word → Except Cause Word}
    (h : ∀ s, exec i s = settle s (alu64Src op dst src s)) :
    Writes i (writesDstReadsSrc dst src) Prod.fst fun p s => op (s.read64 p.1) (s.read64 p.2) := h

theorem writes_of_shift64Imm {op : Word → Nat → Word} (h : ∀ s, exec i s = settle s (shift64Imm op dst imm s)) :
    Writes i (writesDst dst) id fun d s => .ok (op (s.read64 d) (shiftAmount64 (zext64 imm))) := h

theorem writes_of_shift64Src {op : Word → Nat → Word} (h : ∀ s, exec i s = settle s (shift64Src op dst src s)) :
    Writes i (writesDstReadsSrc dst src) Prod.fst fun p s =>
      .ok (op (s.read64 p.1) (shiftAmount64 (s.read64 p.2))) := h

theorem writes_of_unary64 {op : Word → Word} (h : ∀ s, exec i s = settle s (unary64 op dst s)) :
    Writes i (writesDst dst) id fun d s => .ok (op (s.read64 d)) := h

theorem writes_of_alu32Imm {op : BitVec 32 → BitVec 32 → Except Cause (BitVec 32)}
    (h : ∀ s, exec i s = settle s (alu32Imm op dst imm s)) :
    Writes i (writesDst dst) id fun d s => BitVec.setWidth 64 <$> op (s.read32 d) imm := by
  intro s
  simp only [h, alu32Imm, Functor.map_map, bind_pure_comp]
  rfl

theorem writes_of_alu32Src {op : BitVec 32 → BitVec 32 → Except Cause (BitVec 32)}
    (h : ∀ s, exec i s = settle s (alu32Src op dst src s)) :
    Writes i (writesDstReadsSrc dst src) Prod.fst fun p s =>
      BitVec.setWidth 64 <$> op (s.read32 p.1) (s.read32 p.2) := by
  intro s
  simp only [h, alu32Src, Functor.map_map, bind_pure_comp]
  rfl

theorem writes_of_shift32Imm {op : BitVec 32 → Nat → BitVec 32}
    (h : ∀ s, exec i s = settle s (shift32Imm op dst imm s)) :
    Writes i (writesDst dst) id fun d s =>
      BitVec.setWidth 64 <$> .ok (op (s.read32 d) (shiftAmount32 imm)) := h

theorem writes_of_shift32Src {op : BitVec 32 → Nat → BitVec 32}
    (h : ∀ s, exec i s = settle s (shift32Src op dst src s)) :
    Writes i (writesDstReadsSrc dst src) Prod.fst fun p s =>
      BitVec.setWidth 64 <$> .ok (op (s.read32 p.1) (shiftAmount32 (s.read32 p.2))) := h

theorem writes_of_unary32 {op : BitVec 32 → BitVec 32} (h : ∀ s, exec i s = settle s (unary32 op dst s)) :
    Writes i (writesDst dst) id fun d s => BitVec.setWidth 64 <$> .ok (op (s.read32 d)) := h

theorem writes_of_loadImmediate (h : ∀ s, exec i s = settle s (loadImmediate dst imm s)) :
    Writes i (writesDst dst) id fun _ _ => .ok (zext64 imm) := h

theorem writes_of_loadReg {w : Width} {offset : Offset} (h : ∀ s, exec i s = settle s (loadReg w dst src offset s)) :
    Writes i (writesDstReadsSrc dst src) Prod.fst fun p s =>
      memRead w (effectiveAddress (s.read64 p.2) offset) s := h

/-! ## The plan of each form -/

theorem Writes.exists_plan {α : Type} {prologue : Except Cause α} {target : α → RegIdx}
    {value : α → State → Except Cause Word} (h : Writes i prologue target value)
    (hwf : i.WellFormed = true → ∃ a, prologue = .ok a)
    (htarget : ∀ a, prologue = .ok a → target a ≠ frameRegister)
    (hcause : ∀ a s c, value a s = .error c → OwnCause i c)
    (hmem : i.form ≠ .ldx → ∀ a s m, value a { s with mem := m } = value a s) :
    ∃ plan, Plan i plan := by
  refine ⟨_, .of_prologue (fun a s => .write (target a) <$> value a s) hwf ?_ ?_ ?_ ?_⟩
  · intro s
    simp only [h s, map_bind, Functor.map_map, Change.apply]
  · intro a s ch hp hb
    cases hv : value a s <;> rw [hv] at hb <;> cases hb
    exact htarget a hp
  · intro a s c hb
    cases hv : value a s <;> rw [hv] at hb <;> cases hb
    exact hcause a s _ hv
  · intro hi a s m
    rw [hmem hi]

theorem Writes.exists_plan_of_dst {value : RegIdx → State → Except Cause Word} (h : Writes i (writesDst dst) id value)
    (hd : i.usedDst = some dst) (hw : i.form.writesDst = true)
    (hcause : ∀ d s c, value d s = .error c → OwnCause i c)
    (hmem : ∀ d s m, value d { s with mem := m } = value d s) : ∃ plan, Plan i plan :=
  h.exists_plan (fun hwf => writesDst_of_wellFormed hwf hd hw) (fun _ hp => ((writesDst_eq_ok_iff _ _).1 hp).2)
    hcause fun _ => hmem

theorem Writes.exists_plan_of_dst_src {value : RegIdx × RegIdx → State → Except Cause Word}
    (h : Writes i (writesDstReadsSrc dst src) Prod.fst value) (hd : i.usedDst = some dst) (hs : i.usedSrc = some src)
    (hw : i.form.writesDst = true) (hcause : ∀ p s c, value p s = .error c → OwnCause i c)
    (hmem : i.form ≠ .ldx → ∀ p s m, value p { s with mem := m } = value p s) : ∃ plan, Plan i plan :=
  h.exists_plan (fun hwf => writesDstReadsSrc_of_wellFormed hwf hd hs hw)
    (fun _ hp => ((writesDstReadsSrc_eq_ok_iff _ _ _ _).1 hp).2.2) hcause hmem

/-- A form that uses no register field and makes one change. -/
theorem exists_plan_of_change (ch : State → Change) (hexec : ∀ s, exec i s = settle s (.ok ((ch s).apply s)))
    (hallowed : ∀ s, (ch s).Allowed i s) (hmem : ∀ s m, ch { s with mem := m } = ch s) : ∃ plan, Plan i plan :=
  ⟨fun s => .ok (ch s), hexec, fun s _ h => by cases h; exact hallowed s, nofun, fun _ s m => by rw [hmem]⟩

theorem branch_allowed (s : State) (taken : Bool) (offset : Offset) :
    (Change.goto (if taken then s.jumpTarget offset else s.pc + 1)).Allowed i s := by
  cases taken
  · exact .inl rfl
  · exact .inr (.inl ⟨offset, rfl⟩)

theorem exists_plan_of_jumpImm {cond : Word → Word → Bool} {offset : Offset}
    (hexec : ∀ s, exec i s = settle s (jumpImm cond dst imm offset s)) (hd : i.usedDst = some dst) :
    ∃ plan, Plan i plan := by
  refine ⟨_, .of_prologue (prologue := usedReg dst)
    (fun d s => .ok (.goto (if cond (s.read64 d) (ext64 imm) then s.jumpTarget offset else s.pc + 1)))
    (fun hwf => usedReg_of_wellFormed hwf hd) ?_ ?_ nofun fun _ _ _ _ => rfl⟩
  · intro s
    simp only [hexec, jumpImm, State.branch_eq, map_bind]
    rfl
  · rintro d s _ - ⟨⟩
    exact branch_allowed s _ offset

theorem exists_plan_of_jumpSrc {cond : Word → Word → Bool} {offset : Offset}
    (hexec : ∀ s, exec i s = settle s (jumpSrc cond dst src offset s)) (hd : i.usedDst = some dst)
    (hs : i.usedSrc = some src) : ∃ plan, Plan i plan := by
  refine ⟨_, .of_prologue (prologue := readsDstSrc dst src)
    (fun p s => .ok (.goto (if cond (s.read64 p.1) (s.read64 p.2) then s.jumpTarget offset else s.pc + 1)))
    (fun hwf => readsDstSrc_of_wellFormed hwf hd hs) ?_ ?_ nofun fun _ _ _ _ => rfl⟩
  · intro s
    simp only [hexec, jumpSrc, State.branch_eq, map_bind]
    rfl
  · rintro d s _ - ⟨⟩
    exact branch_allowed s _ offset

/-- The change of a store, or its cause (R56, R269). -/
def storeChange (w : Width) (ea : Int) (v : Word) : Except Cause Change :=
  if inBounds ea w.bytes then .ok (.store ea.toNat v w.bytes) else .error .memOutOfBounds

/-- A store is its write and the advance of `pc`. -/
theorem memWrite_advance (w : Width) (ea : Int) (v : Word) (s : State) :
    State.advance <$> memWrite w ea v s = (·.apply s) <$> storeChange w ea v := by
  unfold memWrite storeChange
  split <;> rfl

theorem storeChange_allowed {w : Width} {ea : Int} {v : Word} {ch : Change} (hi : i.form = .st ∨ i.form = .stx)
    (s : State) (h : storeChange w ea v = .ok ch) : ch.Allowed i s := by
  unfold storeChange at h
  split at h <;> cases h
  rename_i hin
  have := (inBounds_iff _ _).1 hin
  exact ⟨hi, by omega⟩

theorem storeChange_ownCause {w : Width} {ea : Int} {v : Word} {c : Cause} (hi : i.form = .st ∨ i.form = .stx)
    (h : storeChange w ea v = .error c) : OwnCause i c := by
  unfold storeChange at h
  split at h <;> cases h
  exact .inr ⟨rfl, .inr hi⟩

theorem exists_plan_of_storeImm {w : Width} {v : Word} {offset : Offset}
    (hexec : ∀ s, exec i s = settle s (storeImm w v dst offset s)) (hd : i.usedDst = some dst) (hi : i.form = .st) :
    ∃ plan, Plan i plan := by
  refine ⟨_, .of_prologue (prologue := usedReg dst)
    (fun d s => storeChange w (effectiveAddress (s.read64 d) offset) v)
    (fun hwf => usedReg_of_wellFormed hwf hd) ?_ ?_ ?_ fun _ _ _ _ => rfl⟩
  · intro s
    simp only [hexec, storeImm, map_bind, ← memWrite_advance, bind_pure_comp]
  · exact fun d s ch _ => storeChange_allowed (.inl hi) s
  · exact fun d s c => storeChange_ownCause (.inl hi)

theorem exists_plan_of_storeReg {w : Width} {offset : Offset}
    (hexec : ∀ s, exec i s = settle s (storeReg w dst src offset s)) (hd : i.usedDst = some dst)
    (hs : i.usedSrc = some src) (hi : i.form = .stx) : ∃ plan, Plan i plan := by
  refine ⟨_, .of_prologue (prologue := readsDstSrc dst src)
    (fun p s => storeChange w (effectiveAddress (s.read64 p.1) offset) (s.read64 p.2))
    (fun hwf => readsDstSrc_of_wellFormed hwf hd hs) ?_ ?_ ?_ fun _ _ _ _ => rfl⟩
  · intro s
    simp only [hexec, storeReg, map_bind, ← memWrite_advance, bind_pure_comp]
  · exact fun d s ch _ => storeChange_allowed (.inr hi) s
  · exact fun d s c => storeChange_ownCause (.inr hi)

theorem ownCause_of_ok {α : Type} {x : Except Cause α} {c : Cause} (hok : ∃ v, x = .ok v) (h : x = .error c) :
    OwnCause i c := by
  obtain ⟨v, hv⟩ := hok
  simp [hv] at h

/-- A rule whose only cause is a zero divisor, in one of the eight dividing instructions. -/
theorem ownCause_of_divide {α : Type} {zero : Prop} [Decidable zero] {v : α} {c : Cause}
    (hi : i.opcode ∈ [0x37, 0x3f, 0x97, 0x9f, 0x34, 0x3c, 0x94, 0x9c])
    (h : (if zero then .error .divideByZero else .ok v : Except Cause α) = .error c) : OwnCause i c := by
  split at h <;> cases h
  exact .inl ⟨rfl, hi⟩

theorem eq_error_of_map {α β : Type} {f : α → β} {x : Except Cause α} {c : Cause} (h : f <$> x = .error c) :
    x = .error c := by
  cases x <;> cases h
  rfl

end

/-- Every instruction has a plan: the instructions, grouped by their form's shape. -/
theorem exists_plan (i : Instr) : ∃ plan, Plan i plan := by
  cases i with
  | addImm | subImm | mulImm | orImm | andImm | xorImm | movImm =>
    exact (writes_of_alu64Imm fun _ => rfl).exists_plan_of_dst rfl rfl
      (fun _ _ _ => ownCause_of_ok ⟨_, rfl⟩) fun _ _ _ => rfl
  | addSrc | subSrc | mulSrc | orSrc | andSrc | xorSrc | movSrc =>
    exact (writes_of_alu64Src fun _ => rfl).exists_plan_of_dst_src rfl rfl rfl
      (fun _ _ _ => ownCause_of_ok ⟨_, rfl⟩) fun _ _ _ _ => rfl
  | add32Imm | sub32Imm | mul32Imm | or32Imm | and32Imm | xor32Imm | mov32Imm =>
    exact (writes_of_alu32Imm fun _ => rfl).exists_plan_of_dst rfl rfl
      (fun _ _ _ => ownCause_of_ok ⟨_, rfl⟩) fun _ _ _ => rfl
  | add32Src | sub32Src | mul32Src | or32Src | and32Src | xor32Src | mov32Src =>
    exact (writes_of_alu32Src fun _ => rfl).exists_plan_of_dst_src rfl rfl rfl
      (fun _ _ _ => ownCause_of_ok ⟨_, rfl⟩) fun _ _ _ _ => rfl
  | lshImm | rshImm | arshImm =>
    exact (writes_of_shift64Imm fun _ => rfl).exists_plan_of_dst rfl rfl
      (fun _ _ _ => ownCause_of_ok ⟨_, rfl⟩) fun _ _ _ => rfl
  | lshSrc | rshSrc | arshSrc =>
    exact (writes_of_shift64Src fun _ => rfl).exists_plan_of_dst_src rfl rfl rfl
      (fun _ _ _ => ownCause_of_ok ⟨_, rfl⟩) fun _ _ _ _ => rfl
  | lsh32Imm | rsh32Imm | arsh32Imm =>
    exact (writes_of_shift32Imm fun _ => rfl).exists_plan_of_dst rfl rfl
      (fun _ _ _ => ownCause_of_ok ⟨_, rfl⟩) fun _ _ _ => rfl
  | lsh32Src | rsh32Src | arsh32Src =>
    exact (writes_of_shift32Src fun _ => rfl).exists_plan_of_dst_src rfl rfl rfl
      (fun _ _ _ => ownCause_of_ok ⟨_, rfl⟩) fun _ _ _ _ => rfl
  | neg | le16 | le32 | le64 | be16 | be32 | be64 =>
    exact (writes_of_unary64 fun _ => rfl).exists_plan_of_dst rfl rfl
      (fun _ _ _ => ownCause_of_ok ⟨_, rfl⟩) fun _ _ _ => rfl
  | neg32 =>
    exact (writes_of_unary32 fun _ => rfl).exists_plan_of_dst rfl rfl
      (fun _ _ _ => ownCause_of_ok ⟨_, rfl⟩) fun _ _ _ => rfl
  | lddw =>
    exact (writes_of_loadImmediate fun _ => rfl).exists_plan_of_dst rfl rfl
      (fun _ _ _ => ownCause_of_ok ⟨_, rfl⟩) fun _ _ _ => rfl
  | ldxw | ldxh | ldxb | ldxdw =>
    refine (writes_of_loadReg fun _ => rfl).exists_plan_of_dst_src rfl rfl rfl ?_ (absurd rfl)
    exact fun _ _ c h => .inr ⟨((memRead_eq_error_iff _ _ _ _).1 h).2, .inl rfl⟩
  | jeqImm | jgtImm | jgeImm | jsetImm | jneImm | jsgtImm | jsgeImm =>
    exact exists_plan_of_jumpImm (fun _ => rfl) rfl
  | jeqSrc | jgtSrc | jgeSrc | jsetSrc | jneSrc | jsgtSrc | jsgeSrc =>
    exact exists_plan_of_jumpSrc (fun _ => rfl) rfl rfl
  | stw | sth | stb | stdw => exact exists_plan_of_storeImm (fun _ => rfl) rfl rfl
  | stxw | stxh | stxb | stxdw => exact exists_plan_of_storeReg (fun _ => rfl) rfl rfl rfl
  | ja offset =>
    exact exists_plan_of_change (fun s => .goto (s.jumpTarget offset)) (fun _ => rfl)
      (fun s => .inr (.inl ⟨offset, rfl⟩)) fun _ _ => rfl
  | call imm =>
    exact exists_plan_of_change (fun _ => .goto imm.toNat) (fun _ => rfl)
      (fun s => .inr (.inr ⟨imm, rfl⟩)) fun _ _ => rfl
  | exit => exact exists_plan_of_change (fun _ => .halt) (fun _ => rfl) (fun _ => rfl) fun _ _ => rfl
  | ldabsw | ldabsh | ldabsb | ldabsdw | ldindw | ldindh | ldindb | ldinddw =>
    exact exists_plan_of_change (fun _ => .report) (fun _ => rfl) (fun _ => rfl) fun _ _ => rfl
  | divImm | modImm =>
    exact (writes_of_alu64Imm fun _ => rfl).exists_plan_of_dst rfl rfl
      (fun _ _ _ => ownCause_of_divide (by simp [Instr.opcode, Instr.fields])) fun _ _ _ => rfl
  | divSrc | modSrc =>
    exact (writes_of_alu64Src fun _ => rfl).exists_plan_of_dst_src rfl rfl rfl
      (fun _ _ _ => ownCause_of_divide (by simp [Instr.opcode, Instr.fields])) fun _ _ _ _ => rfl
  | div32Imm | mod32Imm =>
    exact (writes_of_alu32Imm fun _ => rfl).exists_plan_of_dst rfl rfl
      (fun _ _ _ h => ownCause_of_divide (by simp [Instr.opcode, Instr.fields]) (eq_error_of_map h)) fun _ _ _ => rfl
  | div32Src | mod32Src =>
    exact (writes_of_alu32Src fun _ => rfl).exists_plan_of_dst_src rfl rfl rfl
      (fun _ _ _ h => ownCause_of_divide (by simp [Instr.opcode, Instr.fields]) (eq_error_of_map h)) fun _ _ _ _ => rfl

end Sys2Proof.Machine
end

section
/-! PROOFS. Family other: the whole-machine rules. -/

namespace Sys2Proof.Machine

open Sys2Proof.Claims

/-! ## What a change keeps -/

section
variable (ch : Change) (s : State)

@[simp] theorem Change.apply_fault : (ch.apply s).fault = s.fault := by cases ch <;> rfl

@[simp] theorem Change.apply_program : (ch.apply s).program = s.program := by cases ch <;> rfl

end

/-! ## Every instruction, and every step, answers -/

/-- An instruction makes a change that it may make, or takes a cause (R262, R270). -/
theorem exec_cases {i : Instr} {s t : State} (h : exec i s = .next t) :
    (∃ ch : Change, ch.Allowed i s ∧ t = ch.apply s) ∨
      ∃ c, (i.WellFormed = true → OwnCause i c) ∧ t = takeFault c s := by
  obtain ⟨plan, hplan⟩ := exists_plan i
  rw [hplan.exec_eq, settle_next_iff] at h
  cases hp : plan s with
  | ok ch =>
    rw [hp] at h
    obtain ⟨⟨⟩⟩ | ⟨c, ⟨⟩, -⟩ := h
    exact .inl ⟨ch, hplan.allowed s ch hp, rfl⟩
  | error c =>
    rw [hp] at h
    obtain ⟨⟨⟩⟩ | ⟨_, ⟨⟩, rfl⟩ := h
    exact .inr ⟨c, hplan.ownCause s c hp, rfl⟩

theorem exec_completes (i : Instr) (s : State) : ∃ t, exec i s = .next t := by
  obtain ⟨plan, hplan⟩ := exists_plan i
  rw [hplan.exec_eq]
  exact settle_completes _ _

theorem step_of_decode {s : State} {w : Word} {i : Instr} (hrun : s.control = .running) (hfetch : fetch s = .ok w)
    (hdecode : decode w = .ok i) : step s = exec i s := by
  simp only [step, hrun, hfetch, hdecode]

theorem step_of_decode_error {s : State} {w : Word} {e : DecodeError} (hrun : s.control = .running)
    (hfetch : fetch s = .ok w) (hdecode : decode w = .error e) :
    step s = .next (takeFault .illegalInstruction s) := by
  simp only [step, hrun, hfetch, hdecode]

theorem step_of_fetches {s : State} {i : Instr} (h : Fetches s i) : step s = exec i s := by
  obtain ⟨hrun, w, hfetch, hdecode⟩ := h
  exact step_of_decode hrun hfetch hdecode

/-- A Running machine takes a cause before any instruction runs, the same whatever its memory holds, or runs the
instruction it fetches (R262). -/
theorem running_cases {s : State} (hrun : s.control = .running) :
    (∃ c, ∀ m, step { s with mem := m } = .next (takeFault c { s with mem := m })) ∨ ∃ i, Fetches s i := by
  cases hfetch : fetch s with
  | error c => exact .inl ⟨c, fun m => step_of_fetch_error (s := { s with mem := m }) hrun hfetch⟩
  | ok w =>
    cases hdecode : decode w with
    | error e => exact .inl ⟨_, fun m => step_of_decode_error (s := { s with mem := m }) hrun hfetch hdecode⟩
    | ok i => exact .inr ⟨i, hrun, w, hfetch, hdecode⟩

/-- Settles O12: an instruction settles its plan, and a Running machine takes a cause or runs an instruction. -/
theorem everyRunningStepCompletes : Obligations.EveryRunningStepCompletes := by
  refine ⟨exec_completes, fun s hrun => ?_⟩
  rcases running_cases hrun with ⟨c, hstep⟩ | ⟨i, hi⟩
  · exact ⟨_, hstep s.mem⟩
  · rw [step_of_fetches hi]
    exact exec_completes i s

/-- A step that answers took a cause, or made a change that the instruction it fetched may make. -/
theorem step_cases {s t : State} (h : step s = .next t) :
    (∃ c, t = takeFault c s) ∨ ∃ i, ∃ ch : Change, Fetches s i ∧ ch.Allowed i s ∧ t = ch.apply s := by
  obtain ⟨hrun, ⟨c, -, ht⟩ | ⟨w, e, -, -, ht⟩ | ⟨w, i, hfetch, hdecode, hexec⟩⟩ := step_next h
  · exact .inl ⟨c, ht⟩
  · exact .inl ⟨_, ht⟩
  · rcases exec_cases hexec with ⟨ch, hch, ht⟩ | ⟨c, -, ht⟩
    · exact .inr ⟨i, ch, ⟨hrun, w, hfetch, hdecode⟩, hch, ht⟩
    · exact .inl ⟨c, ht⟩

/-! ## What follows for every step -/

/-- Settles O13: a change keeps `FAULT`, so the step took the cause. -/
theorem everyFaultIsPrecise : Obligations.EveryFaultIsPrecise := by
  intro s t c hs hstep ht
  rcases step_cases hstep with ⟨c', rfl⟩ | ⟨i, ch, -, -, rfl⟩
  · cases ht
    exact faulted_takeFault s c
  · simp [hs] at ht

/-- Settles O21: neither fault entry nor any change reaches the program. -/
theorem noStepChangesProgram : Obligations.NoStepChangesProgram := by
  intro s t hstep
  rcases step_cases hstep with ⟨c, rfl⟩ | ⟨i, ch, -, -, rfl⟩
  · rfl
  · exact ch.apply_program s

theorem Change.apply_read64_frame {ch : Change} {i : Instr} {s : State} (hch : ch.Allowed i s) :
    (ch.apply s).read64 frameRegister = s.read64 frameRegister := by
  cases ch with
  | write d v => exact s.read64_write64_other v (Ne.symm hch)
  | goto | halt | store | report => rfl

/-- Settles O20: the one change that writes a register writes another one. -/
theorem noStepChangesFrameRegister : Obligations.NoStepChangesFrameRegister := by
  intro s t hstep
  rcases step_cases hstep with ⟨c, rfl⟩ | ⟨i, ch, -, hch, rfl⟩
  · rfl
  · exact Change.apply_read64_frame hch

/-- Settles O22: the one change that reaches memory is a store's, and it lies in scratch memory. -/
theorem onlyStoresChangeMemory : Obligations.OnlyStoresChangeMemory := by
  intro s t a hstep hbyte
  rcases step_cases hstep with ⟨c, rfl⟩ | ⟨i, ch, hi, hch, rfl⟩
  · exact absurd rfl hbyte
  cases ch with
  | store b v n =>
    obtain ⟨hform, hn⟩ := hch
    refine ⟨⟨i, hi, hform⟩, fun _ => rfl, ?_⟩
    by_contra hlarge
    exact hbyte (Memory.readByte_writeLE_other s.mem b v n a (.inr (by omega)))
  | write | goto | halt | report => exact absurd rfl hbyte

/-- Settles O24: the one change that reaches the report is a packet load's. -/
theorem onlyPacketLoadsReport : Obligations.OnlyPacketLoadsReport := by
  intro s t hstep hreport
  rcases step_cases hstep with ⟨c, rfl⟩ | ⟨i, ch, hi, hch, rfl⟩
  · exact absurd hreport (by simp)
  cases ch with
  | report => exact ⟨⟨i, hi, hch⟩, rfl, rfl⟩
  | write | goto | halt | store => exact absurd hreport (by simp [Change.apply])

/-- Settles O25: fault entry records its cause, and the one change that reaches `STATE` is that of `exit`. -/
theorem runningHaltsByExitOrFault : Obligations.RunningHaltsByExitOrFault := by
  intro s t hs hstep
  rcases step_cases hstep with ⟨c, rfl⟩ | ⟨i, ch, hi, hch, rfl⟩
  · exact .inr (.inr ⟨rfl, by simp⟩)
  cases ch with
  | halt =>
    obtain rfl : i = .exit := hch
    exact .inr (.inl ⟨⟨rfl, hs⟩, hi⟩)
  | write | goto | store | report => exact .inl ⟨hi.1, hs⟩

/-! ### The invariant -/

theorem Change.apply_pc_range {ch : Change} {i : Instr} {s : State} (hch : ch.Allowed i s)
    (hpc : 0 ≤ s.pc ∧ s.pc < 2 ^ 32) : -32767 ≤ (ch.apply s).pc ∧ (ch.apply s).pc ≤ 2 ^ 32 + 32767 := by
  cases ch with
  | goto target =>
    rcases hch with rfl | ⟨offset, rfl⟩ | ⟨imm, rfl⟩ <;> simp only [Change.apply, State.goto_pc, State.jumpTarget]
    · omega
    · have hlo := BitVec.le_toInt offset
      have hhi := BitVec.toInt_lt (x := offset)
      omega
    · omega
  | halt =>
    show -32767 ≤ s.pc ∧ s.pc ≤ 2 ^ 32 + 32767
    omega
  | write | store | report =>
    show -32767 ≤ s.pc + 1 ∧ s.pc + 1 ≤ 2 ^ 32 + 32767
    omega

theorem Change.apply_mem_wf (ch : Change) {s : State} (hwf : s.mem.wf) : (ch.apply s).mem.wf := by
  cases ch with
  | store a v n => exact Memory.wf_writeLE hwf a v n
  | write | goto | halt | report => exact hwf

theorem Change.apply_unsup (ch : Change) {s : State} (h : s.unsup = true ↔ 0 < s.unsupCount) :
    (ch.apply s).unsup = true ↔ 0 < (ch.apply s).unsupCount := by
  cases ch with
  | report => simp [Change.apply]
  | write | goto | halt | store => exact h

/-- A slot that a step fetches from is one that a program can have. -/
theorem fetches_pc_range {s : State} {i : Instr} (hs : s.Inv) (hi : Fetches s i) : 0 ≤ s.pc ∧ s.pc < 2 ^ 32 := by
  obtain ⟨-, w, hfetch, -⟩ := hi
  obtain ⟨hlo, hslot⟩ := (fetch_eq_ok_iff _ _).1 hfetch
  have hlength : s.program.length ≤ 2 ^ 32 := hs.program_length
  have := (List.getElem?_eq_some_iff.1 hslot).1
  omega

/-- Settles O17: fault entry reaches `STATE` and `FAULT` only, and each change keeps each part. -/
theorem everyStepKeepsInvariant : Obligations.EveryStepKeepsInvariant := by
  intro s t hs hstep
  have hfault : t.fault ≠ none → t.control = .halted := by
    rcases step_cases hstep with ⟨c, rfl⟩ | ⟨i, ch, hi, hch, rfl⟩
    · exact fun _ => rfl
    · intro h
      rw [Change.apply_fault] at h
      exact absurd ((hs.fault_halted h).symm.trans hi.1) (by simp)
  have hframe : t.read64 frameRegister = 0 := (noStepChangesFrameRegister s t hstep).trans hs.frame_zero
  have hprogram : t.program.length ≤ Config.progLenMax := noStepChangesProgram s t hstep ▸ hs.program_length
  rcases step_cases hstep with ⟨c, rfl⟩ | ⟨i, ch, hi, hch, rfl⟩
  · exact ⟨hs.mem_wf, hframe, hs.pc_range, hprogram, hfault, hs.unsup_counted⟩
  · exact ⟨ch.apply_mem_wf hs.mem_wf, hframe, Change.apply_pc_range hch (fetches_pc_range hs hi), hprogram, hfault,
      ch.apply_unsup hs.unsup_counted⟩

/-! ### Reading memory -/

theorem Change.apply_other_mem (ch : Change) (s : State) (m : Memory) :
    { ch.apply { s with mem := m } with mem := (ch.apply s).mem } = ch.apply s := by
  cases ch <;> rfl

/-- Settles O23: without a load the plan does not depend on memory, and neither do the causes before it. -/
theorem onlyLoadsReadMemory : Obligations.OnlyLoadsReadMemory := by
  intro s t m hstep hload
  rcases running_cases (step_next hstep).1 with ⟨c, hc⟩ | ⟨i, hi⟩
  · obtain rfl : takeFault c s = t := by simpa using (hc s.mem).symm.trans hstep
    exact ⟨_, hc m, rfl⟩
  · obtain ⟨plan, hplan⟩ := exists_plan i
    have hi' : Fetches { s with mem := m } i := hi
    rw [step_of_fetches hi, hplan.exec_eq] at hstep
    rw [step_of_fetches hi', hplan.exec_eq, hplan.memFree (hload i hi)]
    cases hp : plan s with
    | ok ch =>
      rw [hp] at hstep
      cases hstep
      exact ⟨_, rfl, ch.apply_other_mem s m⟩
    | error c =>
      rw [hp] at hstep
      cases hstep
      exact ⟨_, rfl, rfl⟩

/-! ### Causes -/

/-- Settles O16: a change keeps `FAULT`, so the instruction took the cause, past checks that it passes. -/
theorem ownFaultsByFamily : Obligations.OwnFaultsByFamily := by
  intro i s t c hwf hs hexec ht
  rcases exec_cases hexec with ⟨ch, -, rfl⟩ | ⟨c', hcause, rfl⟩
  · simp [hs] at ht
  · cases ht
    exact hcause hwf

theorem writesDst_frameRegister : writesDst 10 = .error .readOnlyRegister := rfl

/-- R10 is refused after both fields have been found to name registers (R262). -/
theorem writesDstReadsSrc_frameRegister {src : RegField} (hsrc : src.toNat ≤ 10) :
    writesDstReadsSrc 10 src = .error .readOnlyRegister := by
  have hread : usedReg src = .ok ⟨src.toNat, by omega⟩ := (usedReg_eq_ok_iff _ _).2 rfl
  rw [writesDstReadsSrc, hread]
  rfl

/-- Settles O15: the two prologues that test for a writable `dst` raise before the rule runs. -/
theorem writingFrameRegisterFaults : Obligations.WritingFrameRegisterFaults := by
  intro i s hnamed hwrites hten
  refine ⟨_, ?_, faulted_takeFault s _⟩
  cases exec_beginsWithPrologue i s with
  | usesNone t hd => simp [hd] at hten
  | reads dst rule hd hs hw | readsBoth dst src rule hd hs hw => simp [hw] at hwrites
  | writes dst rule hd hs hw hexec =>
    obtain rfl : dst = 10 := by simpa [hd] using hten
    rw [hexec, settle_bind_of_error s rule writesDst_frameRegister]
  | writesReads dst src rule hd hs hw hexec =>
    obtain rfl : dst = 10 := by simpa [hd] using hten
    rw [hexec, settle_bind_of_error s rule (writesDstReadsSrc_frameRegister (hnamed src (.inr hs)))]

/-! ### One step -/

/-- Settles O8: `fetch` answers the word in the slot. -/
theorem stepRunsDecodedInstruction : Obligations.StepRunsDecodedInstruction :=
  fun s w _ hrun hpc hslot hdecode => step_of_decode hrun ((fetch_eq_ok_iff s w).2 ⟨hpc, hslot⟩) hdecode

/-- Settles O10: `fetch` answers the word, and the step takes the cause of a word that fails to decode. -/
theorem illegalWordFaults : Obligations.IllegalWordFaults :=
  fun s w _ hrun hpc hslot hdecode =>
    ⟨_, step_of_decode_error hrun ((fetch_eq_ok_iff s w).2 ⟨hpc, hslot⟩) hdecode, faulted_takeFault s _⟩

/-- Settles O11: the step's test of `STATE`. -/
theorem noStepOutsideRunning : Obligations.NoStepOutsideRunning :=
  fun s => ⟨fun h => by simp only [step, h], fun h => by simp only [step, h]⟩

end Sys2Proof.Machine
end

section
/-! PROOFS. Family other: what the register-writing instructions compute. -/

namespace Sys2Proof.Machine

open Sys2Proof.Claims

/-! ## The frame of a register write -/

theorem wroteReg_write64 (s : State) (d : RegIdx) (v : Word) : WroteReg s d v.toNat (s.write64 d v).advance where
  value := by rw [State.read64_advance, State.read64_write64_same]
  others r hr := by rw [State.read64_advance, State.read64_write64_other _ _ hr]
  pc := rfl
  mem _ := rfl
  status := ⟨rfl, rfl, rfl, rfl, rfl⟩

theorem writesDst_field {d : RegIdx} (hd : d ≠ frameRegister) : writesDst (field d) = .ok d :=
  (writesDst_eq_ok_iff _ _).2 ⟨field_toNat d, hd⟩

section
variable {α : Type} {i : Instr} {prologue : Except Cause α} {target : α → RegIdx}
  {value : α → State → Except Cause Word} {a : α} {s : State}

theorem Writes.wrote (h : Writes i prologue target value) (hp : prologue = .ok a) {v : Word} {n : Nat}
    (hv : value a s = .ok v) (hn : v.toNat = n) : ∃ t, exec i s = .next t ∧ WroteReg s (target a) n t := by
  subst hn
  refine ⟨_, ?_, wroteReg_write64 s (target a) v⟩
  rw [h s, hp]
  show settle s (_ <$> value a s) = _
  rw [hv]
  rfl

theorem Writes.faulted (h : Writes i prologue target value) (hp : prologue = .ok a) {c : Cause}
    (hv : value a s = .error c) : ∃ t, exec i s = .next t ∧ Faulted s c t := by
  rw [h s]
  apply settle_faulted
  rw [hp]
  show _ <$> value a s = _
  rw [hv]
  rfl

end

/-! ## The operations, as functions on numbers -/

/-- The operation always answers, and on unsigned values it is `f`. -/
def Computes {n : Nat} (op : BitVec n → BitVec n → Except Cause (BitVec n)) (f : Nat → Nat → Nat) : Prop :=
  ∀ a b, ∃ v, op a b = .ok v ∧ v.toNat = f a.toNat b.toNat

/-- The operation raises `DivideByZero` on a zero divisor, and on unsigned values it is otherwise `f`. -/
def Divides {n : Nat} (op : BitVec n → BitVec n → Except Cause (BitVec n)) (f : Nat → Nat → Nat) : Prop :=
  ∀ a b, (b = 0 → op a b = .error .divideByZero) ∧ (b ≠ 0 → ∃ v, op a b = .ok v ∧ v.toNat = f a.toNat b.toNat)

/-- The shift by `k` is `f` on the unsigned value. -/
def Shifts {n : Nat} (op : BitVec n → Nat → BitVec n) (f : Nat → Nat → Nat) : Prop :=
  ∀ a k, (op a k).toNat = f a.toNat k

section
variable {n : Nat}

theorem computes_add : Computes (fun a b : BitVec n => .ok (a + b)) fun a b => (a + b) % 2 ^ n :=
  fun a b => ⟨_, rfl, BitVec.toNat_add a b⟩

theorem computes_sub : Computes (fun a b : BitVec n => .ok (a - b)) fun a b => (a + 2 ^ n - b) % 2 ^ n := by
  refine fun a b => ⟨_, rfl, ?_⟩
  have hb := b.isLt
  rw [BitVec.toNat_sub, Nat.add_comm, ← Nat.add_sub_assoc hb.le]

theorem computes_mul : Computes (fun a b : BitVec n => .ok (a * b)) fun a b => a * b % 2 ^ n :=
  fun a b => ⟨_, rfl, BitVec.toNat_mul a b⟩

theorem computes_or : Computes (fun a b : BitVec n => .ok (a ||| b)) fun a b => a ||| b :=
  fun a b => ⟨_, rfl, BitVec.toNat_or a b⟩

theorem computes_and : Computes (fun a b : BitVec n => .ok (a &&& b)) fun a b => a &&& b :=
  fun a b => ⟨_, rfl, BitVec.toNat_and a b⟩

theorem computes_xor : Computes (fun a b : BitVec n => .ok (a ^^^ b)) fun a b => a ^^^ b :=
  fun a b => ⟨_, rfl, BitVec.toNat_xor a b⟩

theorem computes_mov : Computes (fun _ b : BitVec n => .ok b) fun _ b => b := fun _ _ => ⟨_, rfl, rfl⟩

theorem divides_div : Divides (fun a b : BitVec n => if b = 0 then .error .divideByZero else .ok (a / b)) (· / ·) :=
  fun _ _ => ⟨fun h => if_pos h, fun h => ⟨_, if_neg h, BitVec.toNat_udiv⟩⟩

theorem divides_mod : Divides (fun a b : BitVec n => if b = 0 then .error .divideByZero else .ok (a % b)) (· % ·) :=
  fun _ _ => ⟨fun h => if_pos h, fun h => ⟨_, if_neg h, BitVec.toNat_umod⟩⟩

theorem shifts_shiftLeft : Shifts (fun (a : BitVec n) k => a <<< k) fun a k => a * 2 ^ k % 2 ^ n :=
  fun a k => by rw [BitVec.toNat_shiftLeft, Nat.shiftLeft_eq]

theorem shifts_ushiftRight : Shifts (fun (a : BitVec n) k => a >>> k) fun a k => a / 2 ^ k :=
  fun a k => by rw [BitVec.toNat_ushiftRight, Nat.shiftRight_eq_div_pow]

/-- A bit vector is the pattern of its signed value. -/
theorem toNat_eq_toInt_emod (v : BitVec n) : v.toNat = (v.toInt % 2 ^ n).toNat := by
  have h := BitVec.toNat_ofInt (n := n) v.toInt
  rw [BitVec.ofInt_toInt] at h
  exact_mod_cast h

theorem shifts_sshiftRight : Shifts (fun (a : BitVec n) k => a.sshiftRight k) (asr n) := by
  intro a k
  rw [toNat_eq_toInt_emod, BitVec.toInt_sshiftRight, Int.shiftRight_eq_div_pow, asr, signedOf_toNat]
  norm_cast

end

/-! ## Operands -/

/-- The sign extension of R6 on numbers (D5). -/
theorem ext64_toNat (imm : Imm) : (ext64 imm).toNat = sextImm imm := by
  rw [ext64, BitVec.toNat_signExtend, BitVec.toNat_setWidth, Nat.mod_eq_of_lt (by omega), sextImm, BitVec.msb_eq_decide]
  by_cases h : imm.toNat < 2 ^ 31
  · rw [if_neg (by simpa using h), if_pos h, Nat.add_zero]
  · rw [if_pos (by simpa using h), if_neg h]

theorem zext64_toNat (imm : Imm) : (zext64 imm).toNat = imm.toNat := by
  rw [zext64, BitVec.toNat_setWidth]
  omega

theorem read32_toNat (s : State) (d : RegIdx) : (s.read32 d).toNat = (s.read64 d).toNat % 2 ^ 32 := by
  simp [State.read32]

theorem shiftAmount64_eq (b : Word) : shiftAmount64 b = b.toNat % 64 := by
  rw [shiftAmount64, BitVec.toNat_and]
  exact Nat.and_two_pow_sub_one_eq_mod _ 6

theorem shiftAmount32_eq (b : BitVec 32) : shiftAmount32 b = b.toNat % 32 := by
  rw [shiftAmount32, BitVec.toNat_and]
  exact Nat.and_two_pow_sub_one_eq_mod _ 5

end Sys2Proof.Machine
end

section
/-! PROOFS. Family other: the results of the ALU, byte-order and immediate-load instructions. -/

namespace Sys2Proof.Machine

open Sys2Proof.Claims

/-! ## From what a form writes to the rule that states it -/

section
variable {i : RegField → Imm → Instr} {f : Nat → Imm → Nat}

theorem dstImmRule_of_writes {value : Imm → RegIdx → State → Except Cause Word}
    (h : ∀ dst imm, Writes (i dst imm) (writesDst dst) id (value imm))
    (hv : ∀ d imm s, ∃ v, value imm d s = .ok v ∧ v.toNat = f (s.read64 d).toNat imm) : DstImmRule i f := by
  intro d imm s hd
  obtain ⟨v, hok, hn⟩ := hv d imm s
  exact (h _ imm).wrote (writesDst_field hd) hok hn

theorem dstImmRule_of_alu64Imm {op : Word → Word → Except Cause Word} {g : Nat → Nat → Nat}
    (h : ∀ dst imm s, exec (i dst imm) s = settle s (alu64Imm op dst imm s)) (hop : Computes op g)
    (hf : ∀ a imm, g a (sextImm imm) = f a imm) : DstImmRule i f := by
  refine dstImmRule_of_writes (fun dst imm => writes_of_alu64Imm (h dst imm)) fun d imm s => ?_
  rw [← hf, ← ext64_toNat]
  exact hop _ _

theorem dstImmRule_of_alu32Imm {op : BitVec 32 → BitVec 32 → Except Cause (BitVec 32)} {g : Nat → Nat → Nat}
    (h : ∀ dst imm s, exec (i dst imm) s = settle s (alu32Imm op dst imm s)) (hop : Computes op g)
    (hf : ∀ a (imm : Imm), g (a % 2 ^ 32) imm.toNat = f a imm) : DstImmRule i f := by
  refine dstImmRule_of_writes (fun dst imm => writes_of_alu32Imm (h dst imm)) fun d imm s => ?_
  obtain ⟨v, hv, hn⟩ := hop (s.read32 d) imm
  exact ⟨_, by rw [hv]; rfl, by rw [← hf, ← read32_toNat, ← hn]; exact zext64_toNat v⟩

theorem dstImmRule_of_shift64Imm {op : Word → Nat → Word} {g : Nat → Nat → Nat}
    (h : ∀ dst imm s, exec (i dst imm) s = settle s (shift64Imm op dst imm s)) (hop : Shifts op g)
    (hf : ∀ a (imm : Imm), g a (imm.toNat % 64) = f a imm) : DstImmRule i f := by
  refine dstImmRule_of_writes (fun dst imm => writes_of_shift64Imm (h dst imm)) fun d imm s => ⟨_, rfl, ?_⟩
  rw [hop, shiftAmount64_eq, zext64_toNat, hf]

theorem dstImmRule_of_shift32Imm {op : BitVec 32 → Nat → BitVec 32} {g : Nat → Nat → Nat}
    (h : ∀ dst imm s, exec (i dst imm) s = settle s (shift32Imm op dst imm s)) (hop : Shifts op g)
    (hf : ∀ a (imm : Imm), g (a % 2 ^ 32) (imm.toNat % 32) = f a imm) : DstImmRule i f := by
  refine dstImmRule_of_writes (fun dst imm => writes_of_shift32Imm (h dst imm)) fun d imm s => ⟨_, rfl, ?_⟩
  rw [← zext64, zext64_toNat, hop, shiftAmount32_eq, read32_toNat, hf]

end

section
variable {i : RegField → RegField → Instr} {f g : Nat → Nat → Nat}

theorem dstSrcRule_of_writes {value : RegIdx × RegIdx → State → Except Cause Word}
    (h : ∀ dst src, Writes (i dst src) (writesDstReadsSrc dst src) Prod.fst value)
    (hv : ∀ d r s, ∃ v, value (d, r) s = .ok v ∧ v.toNat = f (s.read64 d).toNat (s.read64 r).toNat) :
    DstSrcRule i f := by
  intro d r s hd
  obtain ⟨v, hok, hn⟩ := hv d r s
  exact (h _ _).wrote (writesDstReadsSrc_field hd r) hok hn

theorem dstSrcRule_of_alu64Src {op : Word → Word → Except Cause Word}
    (h : ∀ dst src s, exec (i dst src) s = settle s (alu64Src op dst src s)) (hop : Computes op f) : DstSrcRule i f :=
  dstSrcRule_of_writes (fun dst src => writes_of_alu64Src (h dst src)) fun _ _ _ => hop _ _

theorem dstSrcRule_of_alu32Src {op : BitVec 32 → BitVec 32 → Except Cause (BitVec 32)}
    (h : ∀ dst src s, exec (i dst src) s = settle s (alu32Src op dst src s)) (hop : Computes op g)
    (hf : ∀ a b, g (a % 2 ^ 32) (b % 2 ^ 32) = f a b) : DstSrcRule i f := by
  refine dstSrcRule_of_writes (fun dst src => writes_of_alu32Src (h dst src)) fun d r s => ?_
  obtain ⟨v, hv, hn⟩ := hop (s.read32 d) (s.read32 r)
  exact ⟨_, by rw [hv]; rfl, by rw [← hf, ← read32_toNat, ← read32_toNat, ← hn]; exact zext64_toNat v⟩

theorem dstSrcRule_of_shift64Src {op : Word → Nat → Word}
    (h : ∀ dst src s, exec (i dst src) s = settle s (shift64Src op dst src s)) (hop : Shifts op g)
    (hf : ∀ a b, g a (b % 64) = f a b) : DstSrcRule i f := by
  refine dstSrcRule_of_writes (fun dst src => writes_of_shift64Src (h dst src)) fun d r s => ⟨_, rfl, ?_⟩
  rw [hop, shiftAmount64_eq, hf]

theorem dstSrcRule_of_shift32Src {op : BitVec 32 → Nat → BitVec 32}
    (h : ∀ dst src s, exec (i dst src) s = settle s (shift32Src op dst src s)) (hop : Shifts op g)
    (hf : ∀ a b, g (a % 2 ^ 32) (b % 2 ^ 32 % 32) = f a b) : DstSrcRule i f := by
  refine dstSrcRule_of_writes (fun dst src => writes_of_shift32Src (h dst src)) fun d r s => ⟨_, rfl, ?_⟩
  rw [← zext64, zext64_toNat, hop, shiftAmount32_eq, read32_toNat, read32_toNat, hf]

end

section
variable {i : RegField → Instr} {f : Nat → Nat}

theorem dstRule_of_writes {value : RegIdx → State → Except Cause Word}
    (h : ∀ dst, Writes (i dst) (writesDst dst) id value)
    (hv : ∀ d s, ∃ v, value d s = .ok v ∧ v.toNat = f (s.read64 d).toNat) : DstRule i f := by
  intro d s hd
  obtain ⟨v, hok, hn⟩ := hv d s
  exact (h _).wrote (writesDst_field hd) hok hn

theorem dstRule_of_unary64 {op : Word → Word} (h : ∀ dst s, exec (i dst) s = settle s (unary64 op dst s))
    (hop : ∀ a, (op a).toNat = f a.toNat) : DstRule i f :=
  dstRule_of_writes (fun dst => writes_of_unary64 (h dst)) fun _ _ => ⟨_, rfl, hop _⟩

theorem dstRule_of_unary32 {op : BitVec 32 → BitVec 32} {g : Nat → Nat}
    (h : ∀ dst s, exec (i dst) s = settle s (unary32 op dst s)) (hop : ∀ a, (op a).toNat = g a.toNat)
    (hf : ∀ a, g (a % 2 ^ 32) = f a) : DstRule i f := by
  refine dstRule_of_writes (fun dst => writes_of_unary32 (h dst)) fun d s => ⟨_, rfl, ?_⟩
  rw [← zext64, zext64_toNat, hop, read32_toNat, hf]

end

/-! ## The 64-bit ALU -/

/-- Settles O26: the seven operations in the IMM form. -/
theorem alu64ImmResults : Obligations.Alu64ImmResults :=
  ⟨dstImmRule_of_alu64Imm (fun _ _ _ => rfl) computes_add fun _ _ => rfl,
   dstImmRule_of_alu64Imm (fun _ _ _ => rfl) computes_sub fun _ _ => rfl,
   dstImmRule_of_alu64Imm (fun _ _ _ => rfl) computes_mul fun _ _ => rfl,
   dstImmRule_of_alu64Imm (fun _ _ _ => rfl) computes_or fun _ _ => rfl,
   dstImmRule_of_alu64Imm (fun _ _ _ => rfl) computes_and fun _ _ => rfl,
   dstImmRule_of_alu64Imm (fun _ _ _ => rfl) computes_xor fun _ _ => rfl,
   dstImmRule_of_alu64Imm (fun _ _ _ => rfl) computes_mov fun _ _ => rfl⟩

/-- Settles O27: the seven operations in the SRC form. -/
theorem alu64SrcResults : Obligations.Alu64SrcResults :=
  ⟨dstSrcRule_of_alu64Src (fun _ _ _ => rfl) computes_add, dstSrcRule_of_alu64Src (fun _ _ _ => rfl) computes_sub,
   dstSrcRule_of_alu64Src (fun _ _ _ => rfl) computes_mul, dstSrcRule_of_alu64Src (fun _ _ _ => rfl) computes_or,
   dstSrcRule_of_alu64Src (fun _ _ _ => rfl) computes_and, dstSrcRule_of_alu64Src (fun _ _ _ => rfl) computes_xor,
   dstSrcRule_of_alu64Src (fun _ _ _ => rfl) computes_mov⟩

/-- Settles O28: the three shifts in both forms. -/
theorem shift64Results : Obligations.Shift64Results :=
  ⟨dstImmRule_of_shift64Imm (fun _ _ _ => rfl) shifts_shiftLeft fun _ _ => rfl,
   dstSrcRule_of_shift64Src (fun _ _ _ => rfl) shifts_shiftLeft fun _ _ => rfl,
   dstImmRule_of_shift64Imm (fun _ _ _ => rfl) shifts_ushiftRight fun _ _ => rfl,
   dstSrcRule_of_shift64Src (fun _ _ _ => rfl) shifts_ushiftRight fun _ _ => rfl,
   dstImmRule_of_shift64Imm (fun _ _ _ => rfl) shifts_sshiftRight fun _ _ => rfl,
   dstSrcRule_of_shift64Src (fun _ _ _ => rfl) shifts_sshiftRight fun _ _ => rfl⟩

/-! ## The 32-bit ALU -/

/-- Settles O31: the seven operations in the IMM form, on a low half. -/
theorem alu32ImmResults : Obligations.Alu32ImmResults :=
  ⟨dstImmRule_of_alu32Imm (fun _ _ _ => rfl) computes_add fun _ _ => Nat.mod_add_mod _ _ _,
   dstImmRule_of_alu32Imm (fun _ _ _ => rfl) computes_sub fun _ _ => by omega,
   dstImmRule_of_alu32Imm (fun _ _ _ => rfl) computes_mul fun _ _ => Nat.mod_mul_mod _ _ _,
   dstImmRule_of_alu32Imm (fun _ _ _ => rfl) computes_or fun _ _ => rfl,
   dstImmRule_of_alu32Imm (fun _ _ _ => rfl) computes_and fun _ _ => rfl,
   dstImmRule_of_alu32Imm (fun _ _ _ => rfl) computes_xor fun _ _ => rfl,
   dstImmRule_of_alu32Imm (fun _ _ _ => rfl) computes_mov fun _ _ => rfl⟩

/-- Settles O32: the seven operations in the SRC form, on two low halves. -/
theorem alu32SrcResults : Obligations.Alu32SrcResults :=
  ⟨dstSrcRule_of_alu32Src (fun _ _ _ => rfl) computes_add fun _ _ => (Nat.add_mod _ _ _).symm,
   dstSrcRule_of_alu32Src (fun _ _ _ => rfl) computes_sub fun _ _ => rfl,
   dstSrcRule_of_alu32Src (fun _ _ _ => rfl) computes_mul fun _ _ => (Nat.mul_mod _ _ _).symm,
   dstSrcRule_of_alu32Src (fun _ _ _ => rfl) computes_or fun _ _ => Nat.or_mod_two_pow.symm,
   dstSrcRule_of_alu32Src (fun _ _ _ => rfl) computes_and fun _ _ => Nat.and_mod_two_pow.symm,
   dstSrcRule_of_alu32Src (fun _ _ _ => rfl) computes_xor fun _ _ => Nat.xor_mod_two_pow.symm,
   dstSrcRule_of_alu32Src (fun _ _ _ => rfl) computes_mov fun _ _ => rfl⟩

/-- Settles O33: the three shifts in both forms, on a low half. -/
theorem shift32Results : Obligations.Shift32Results :=
  ⟨dstImmRule_of_shift32Imm (fun _ _ _ => rfl) shifts_shiftLeft fun _ _ => Nat.mod_mul_mod _ _ _,
   dstSrcRule_of_shift32Src (fun _ _ _ => rfl) shifts_shiftLeft fun _ _ => by
     rw [Nat.mod_mul_mod, Nat.mod_mod_of_dvd _ (by decide)],
   dstImmRule_of_shift32Imm (fun _ _ _ => rfl) shifts_ushiftRight fun _ _ => rfl,
   dstSrcRule_of_shift32Src (fun _ _ _ => rfl) shifts_ushiftRight fun _ _ => by
     rw [Nat.mod_mod_of_dvd _ (by decide)],
   dstImmRule_of_shift32Imm (fun _ _ _ => rfl) shifts_sshiftRight fun _ _ => rfl,
   dstSrcRule_of_shift32Src (fun _ _ _ => rfl) shifts_sshiftRight fun _ _ => by
     rw [Nat.mod_mod_of_dvd _ (by decide)]⟩

theorem toNat_zero_sub {n : Nat} (a : BitVec n) : (0 - a).toNat = (2 ^ n - a.toNat) % 2 ^ n := by
  simp

/-- Settles O30: negation is subtraction from zero in the width. -/
theorem negateResults : Obligations.NegateResults :=
  ⟨dstRule_of_unary64 (fun _ _ => rfl) toNat_zero_sub,
   dstRule_of_unary32 (fun _ _ => rfl) (g := fun a => (2 ^ 32 - a) % 2 ^ 32) toNat_zero_sub fun _ => rfl⟩

/-- Settles O44: the form writes the zero-extended `imm`. -/
theorem lddwResult : Obligations.LddwResult :=
  dstImmRule_of_writes (fun _ _ => writes_of_loadImmediate fun _ => rfl) fun _ imm _ => ⟨_, rfl, zext64_toNat imm⟩

/-! ## Division -/

section
variable {i : RegField → Imm → Instr} {f : Nat → Nat → Nat}

theorem divideImm_of_alu64Imm {op : Word → Word → Except Cause Word}
    (h : ∀ dst imm s, exec (i dst imm) s = settle s (alu64Imm op dst imm s)) (hop : Divides op f) :
    DivideImmRule i 64 sextImm f ∧ ZeroImmFaults i := by
  constructor
  · intro d imm s hd hdivisor
    have hne : ext64 imm ≠ 0 := fun hzero => hdivisor (by rw [← ext64_toNat, hzero]; rfl)
    obtain ⟨v, hv, hn⟩ := (hop (s.read64 d) _).2 hne
    refine (writes_of_alu64Imm (h _ imm)).wrote (writesDst_field hd) hv ?_
    rw [hn, ext64_toNat, Nat.mod_eq_of_lt (s.read64 d).isLt]
  · intro d s hd
    exact (writes_of_alu64Imm (h _ 0)).faulted (writesDst_field hd) ((hop _ _).1 rfl)

theorem divideImm_of_alu32Imm {op : BitVec 32 → BitVec 32 → Except Cause (BitVec 32)}
    (h : ∀ dst imm s, exec (i dst imm) s = settle s (alu32Imm op dst imm s)) (hop : Divides op f) :
    DivideImmRule i 32 (·.toNat) f ∧ ZeroImmFaults i := by
  constructor
  · intro d imm s hd hdivisor
    obtain ⟨v, hv, hn⟩ := (hop (s.read32 d) imm).2 (fun hzero => hdivisor (by rw [hzero]; rfl))
    refine (writes_of_alu32Imm (h _ imm)).wrote (writesDst_field hd) (v := zext64 v) (by rw [hv]; rfl) ?_
    rw [zext64_toNat, hn, read32_toNat]
  · intro d s hd
    refine (writes_of_alu32Imm (h _ 0)).faulted (writesDst_field hd) ?_
    rw [(hop _ _).1 rfl]
    rfl

end

section
variable {i : RegField → RegField → Instr} {f : Nat → Nat → Nat}

theorem divideSrc_of_alu64Src {op : Word → Word → Except Cause Word}
    (h : ∀ dst src s, exec (i dst src) s = settle s (alu64Src op dst src s)) (hop : Divides op f) :
    DivideSrcRule i 64 f ∧ ZeroSrcFaults i 64 := by
  have hmod : ∀ (s : State) (r : RegIdx), (s.read64 r).toNat % 2 ^ 64 = (s.read64 r).toNat :=
    fun s r => Nat.mod_eq_of_lt (s.read64 r).isLt
  constructor
  · intro d r s hd hdivisor
    obtain ⟨v, hv, hn⟩ := (hop (s.read64 d) (s.read64 r)).2 (fun hzero => hdivisor (by rw [hzero]; rfl))
    exact (writes_of_alu64Src (h _ _)).wrote (writesDstReadsSrc_field hd r) hv (by rw [hn, hmod, hmod])
  · intro d r s hd hzero
    rw [hmod] at hzero
    exact (writes_of_alu64Src (h _ _)).faulted (writesDstReadsSrc_field hd r)
      ((hop _ _).1 (BitVec.eq_of_toNat_eq hzero))

theorem divideSrc_of_alu32Src {op : BitVec 32 → BitVec 32 → Except Cause (BitVec 32)}
    (h : ∀ dst src s, exec (i dst src) s = settle s (alu32Src op dst src s)) (hop : Divides op f) :
    DivideSrcRule i 32 f ∧ ZeroSrcFaults i 32 := by
  constructor
  · intro d r s hd hdivisor
    rw [← read32_toNat] at hdivisor
    obtain ⟨v, hv, hn⟩ := (hop (s.read32 d) (s.read32 r)).2 (fun hzero => hdivisor (by rw [hzero]; rfl))
    refine (writes_of_alu32Src (h _ _)).wrote (writesDstReadsSrc_field hd r) (v := zext64 v) (by rw [hv]; rfl) ?_
    rw [zext64_toNat, hn, read32_toNat, read32_toNat]
  · intro d r s hd hzero
    rw [← read32_toNat] at hzero
    refine (writes_of_alu32Src (h _ _)).faulted (writesDstReadsSrc_field hd r) ?_
    rw [(hop _ _).1 (BitVec.eq_of_toNat_eq hzero)]
    rfl

end

/-- Settles O29: the quotient and the remainder in both forms. -/
theorem divMod64Results : Obligations.DivMod64Results :=
  ⟨(divideImm_of_alu64Imm (fun _ _ _ => rfl) divides_div).1, (divideSrc_of_alu64Src (fun _ _ _ => rfl) divides_div).1,
   (divideImm_of_alu64Imm (fun _ _ _ => rfl) divides_mod).1, (divideSrc_of_alu64Src (fun _ _ _ => rfl) divides_mod).1⟩

/-- Settles O34: the quotient and the remainder in both forms, on low halves. -/
theorem divMod32Results : Obligations.DivMod32Results :=
  ⟨(divideImm_of_alu32Imm (fun _ _ _ => rfl) divides_div).1, (divideSrc_of_alu32Src (fun _ _ _ => rfl) divides_div).1,
   (divideImm_of_alu32Imm (fun _ _ _ => rfl) divides_mod).1, (divideSrc_of_alu32Src (fun _ _ _ => rfl) divides_mod).1⟩

/-- Settles O35: the zero divisors of the same eight divisions. -/
theorem zeroDivisorFaults : Obligations.ZeroDivisorFaults :=
  ⟨(divideImm_of_alu64Imm (fun _ _ _ => rfl) divides_div).2, (divideImm_of_alu64Imm (fun _ _ _ => rfl) divides_mod).2,
   (divideImm_of_alu32Imm (fun _ _ _ => rfl) divides_div).2, (divideImm_of_alu32Imm (fun _ _ _ => rfl) divides_mod).2,
   (divideSrc_of_alu64Src (fun _ _ _ => rfl) divides_div).2, (divideSrc_of_alu64Src (fun _ _ _ => rfl) divides_mod).2,
   (divideSrc_of_alu32Src (fun _ _ _ => rfl) divides_div).2, (divideSrc_of_alu32Src (fun _ _ _ => rfl) divides_mod).2⟩

end Sys2Proof.Machine
end

section
/-! PROOFS. Family other: independence of the upper halves, and byte order. -/

namespace Sys2Proof.Machine

open Sys2Proof.Claims

/-! ## No 32-bit result depends on an upper half (R160) -/

theorem read32_of_lowHalvesAgree {s s' : State} (h : LowHalvesAgree s s') (r : RegIdx) : s.read32 r = s'.read32 r :=
  BitVec.eq_of_toNat_eq (by rw [read32_toNat, read32_toNat, h r])

/-- A 32-bit operation answers, or its only cause is a zero divisor. -/
def AnswersOrDividesByZero (op : BitVec 32 → BitVec 32 → Except Cause (BitVec 32)) : Prop :=
  ∀ a b, (∃ v, op a b = .ok v) ∨ op a b = .error .divideByZero

theorem Computes.answers {op : BitVec 32 → BitVec 32 → Except Cause (BitVec 32)} {f : Nat → Nat → Nat}
    (h : Computes op f) : AnswersOrDividesByZero op :=
  fun a b => .inl ((h a b).imp fun _ => And.left)

theorem Divides.answers {op : BitVec 32 → BitVec 32 → Except Cause (BitVec 32)} {f : Nat → Nat → Nat}
    (h : Divides op f) : AnswersOrDividesByZero op := by
  intro a b
  by_cases hb : b = 0
  · exact .inr ((h a b).1 hb)
  · exact .inl (((h a b).2 hb).imp fun _ => And.left)

/-- A form whose value is a 32-bit one, the same wherever the low halves of the registers are. -/
theorem Writes.dependsOnLowHalves {α : Type} {i : Instr} {prologue : Except Cause α} {target : α → RegIdx} {a : α}
    {value : α → State → Except Cause (BitVec 32)}
    (h : Writes i prologue target fun a s => BitVec.setWidth 64 <$> value a s) (hp : prologue = .ok a)
    (hvalue : ∀ s, (∃ v, value a s = .ok v) ∨ value a s = .error .divideByZero)
    (hagree : ∀ s s', LowHalvesAgree s s' → value a s = value a s') : DependsOnLowHalves i (target a) := by
  intro s s' hs
  rcases hvalue s with ⟨v, hv⟩ | hzero
  · have hv' : value a s' = .ok v := by rw [← hagree s s' hs, hv]
    obtain ⟨t, hexec, ht⟩ := h.wrote (s := s) hp (v := zext64 v) (by rw [hv]; rfl) rfl
    obtain ⟨t', hexec', ht'⟩ := h.wrote (s := s') hp (v := zext64 v) (by rw [hv']; rfl) rfl
    have hrange : (zext64 v).toNat < 2 ^ 32 := by rw [zext64_toNat]; exact v.isLt
    exact .inl ⟨t, t', hexec, hexec', BitVec.eq_of_toNat_eq (ht.value.trans ht'.value.symm), ht.value ▸ hrange,
      ht.status.fault, ht'.status.fault⟩
  · have hzero' : value a s' = .error .divideByZero := by rw [← hagree s s' hs, hzero]
    obtain ⟨t, hexec, ht⟩ := h.faulted (s := s) hp (c := .divideByZero) (by rw [hzero]; rfl)
    obtain ⟨t', hexec', ht'⟩ := h.faulted (s := s') hp (c := .divideByZero) (by rw [hzero']; rfl)
    exact .inr ⟨t, t', hexec, hexec', ht, ht'⟩

section
variable {d r : RegIdx} (hd : d ≠ frameRegister)
include hd

theorem dependsOnLowHalves_of_alu32Imm {i : Instr} {imm : Imm}
    {op : BitVec 32 → BitVec 32 → Except Cause (BitVec 32)} (hop : AnswersOrDividesByZero op)
    (h : ∀ s, exec i s = settle s (alu32Imm op (field d) imm s)) : DependsOnLowHalves i d :=
  (writes_of_alu32Imm h).dependsOnLowHalves (writesDst_field hd) (fun _ => hop _ _)
    fun _ _ hs => by rw [read32_of_lowHalvesAgree hs]

theorem dependsOnLowHalves_of_alu32Src {i : Instr} {op : BitVec 32 → BitVec 32 → Except Cause (BitVec 32)}
    (hop : AnswersOrDividesByZero op) (h : ∀ s, exec i s = settle s (alu32Src op (field d) (field r) s)) :
    DependsOnLowHalves i d :=
  (writes_of_alu32Src h).dependsOnLowHalves (writesDstReadsSrc_field hd r) (fun _ => hop _ _)
    fun _ _ hs => by rw [read32_of_lowHalvesAgree hs, read32_of_lowHalvesAgree hs]

theorem dependsOnLowHalves_of_shift32Imm {i : Instr} {imm : Imm} {op : BitVec 32 → Nat → BitVec 32}
    (h : ∀ s, exec i s = settle s (shift32Imm op (field d) imm s)) : DependsOnLowHalves i d :=
  (writes_of_shift32Imm h).dependsOnLowHalves (writesDst_field hd) (fun _ => .inl ⟨_, rfl⟩)
    fun _ _ hs => by rw [read32_of_lowHalvesAgree hs]

theorem dependsOnLowHalves_of_shift32Src {i : Instr} {op : BitVec 32 → Nat → BitVec 32}
    (h : ∀ s, exec i s = settle s (shift32Src op (field d) (field r) s)) : DependsOnLowHalves i d :=
  (writes_of_shift32Src h).dependsOnLowHalves (writesDstReadsSrc_field hd r) (fun _ => .inl ⟨_, rfl⟩)
    fun _ _ hs => by rw [read32_of_lowHalvesAgree hs, read32_of_lowHalvesAgree hs]

theorem dependsOnLowHalves_of_unary32 {i : Instr} {op : BitVec 32 → BitVec 32}
    (h : ∀ s, exec i s = settle s (unary32 op (field d) s)) : DependsOnLowHalves i d :=
  (writes_of_unary32 h).dependsOnLowHalves (writesDst_field hd) (fun _ => .inl ⟨_, rfl⟩)
    fun _ _ hs => by rw [read32_of_lowHalvesAgree hs]

end

/-- Settles O36: in the order of the statement's two lists, and then `neg32`. -/
theorem alu32DependsOnLowHalvesOnly : Obligations.Alu32DependsOnLowHalvesOnly := by
  refine ⟨?_, ?_, fun d hd => dependsOnLowHalves_of_unary32 hd fun _ => rfl⟩
  · simp only [List.forall_mem_cons, List.not_mem_nil, false_imp_iff, implies_true, and_true]
    exact ⟨fun _ _ hd => dependsOnLowHalves_of_alu32Imm hd computes_add.answers fun _ => rfl,
      fun _ _ hd => dependsOnLowHalves_of_alu32Imm hd computes_sub.answers fun _ => rfl,
      fun _ _ hd => dependsOnLowHalves_of_alu32Imm hd computes_mul.answers fun _ => rfl,
      fun _ _ hd => dependsOnLowHalves_of_alu32Imm hd divides_div.answers fun _ => rfl,
      fun _ _ hd => dependsOnLowHalves_of_alu32Imm hd computes_or.answers fun _ => rfl,
      fun _ _ hd => dependsOnLowHalves_of_alu32Imm hd computes_and.answers fun _ => rfl,
      fun _ _ hd => dependsOnLowHalves_of_shift32Imm hd fun _ => rfl,
      fun _ _ hd => dependsOnLowHalves_of_shift32Imm hd fun _ => rfl,
      fun _ _ hd => dependsOnLowHalves_of_alu32Imm hd divides_mod.answers fun _ => rfl,
      fun _ _ hd => dependsOnLowHalves_of_alu32Imm hd computes_xor.answers fun _ => rfl,
      fun _ _ hd => dependsOnLowHalves_of_alu32Imm hd computes_mov.answers fun _ => rfl,
      fun _ _ hd => dependsOnLowHalves_of_shift32Imm hd fun _ => rfl⟩
  · simp only [List.forall_mem_cons, List.not_mem_nil, false_imp_iff, implies_true, and_true]
    exact ⟨fun _ _ hd => dependsOnLowHalves_of_alu32Src hd computes_add.answers fun _ => rfl,
      fun _ _ hd => dependsOnLowHalves_of_alu32Src hd computes_sub.answers fun _ => rfl,
      fun _ _ hd => dependsOnLowHalves_of_alu32Src hd computes_mul.answers fun _ => rfl,
      fun _ _ hd => dependsOnLowHalves_of_alu32Src hd divides_div.answers fun _ => rfl,
      fun _ _ hd => dependsOnLowHalves_of_alu32Src hd computes_or.answers fun _ => rfl,
      fun _ _ hd => dependsOnLowHalves_of_alu32Src hd computes_and.answers fun _ => rfl,
      fun _ _ hd => dependsOnLowHalves_of_shift32Src hd fun _ => rfl,
      fun _ _ hd => dependsOnLowHalves_of_shift32Src hd fun _ => rfl,
      fun _ _ hd => dependsOnLowHalves_of_alu32Src hd divides_mod.answers fun _ => rfl,
      fun _ _ hd => dependsOnLowHalves_of_alu32Src hd computes_xor.answers fun _ => rfl,
      fun _ _ hd => dependsOnLowHalves_of_alu32Src hd computes_mov.answers fun _ => rfl,
      fun _ _ hd => dependsOnLowHalves_of_shift32Src hd fun _ => rfl⟩

/-! ## Byte order -/

theorem byteReversed_lt (n v : Nat) : byteReversed n v < 2 ^ (8 * n) := by
  induction n generalizing v with
  | zero => simp [byteReversed]
  | succ n ih =>
    have htop : v % 2 ^ 8 * 2 ^ (8 * n) ≤ (2 ^ 8 - 1) * 2 ^ (8 * n) := Nat.mul_le_mul_right _ (by omega)
    have hrest := ih (v / 2 ^ 8)
    rw [byteReversed, Nat.mul_succ, Nat.pow_add]
    omega

/-- Reversing `m + n` bytes puts the lower `m`, reversed, above the next `n`, reversed. -/
theorem byteReversed_add (m n v : Nat) :
    byteReversed (m + n) v = byteReversed m v * 2 ^ (8 * n) + byteReversed n (v / 2 ^ (8 * m)) := by
  induction m generalizing v with
  | zero => simp [byteReversed]
  | succ m ih =>
    rw [Nat.succ_add, byteReversed, ih, byteReversed, Nat.div_div_eq_div_mul, ← Nat.pow_add]
    ring_nf

theorem byteReversed_one (v : Nat) : byteReversed 1 v = v % 2 ^ 8 := by
  simp [byteReversed]

/-- Only the bytes reversed matter. -/
theorem byteReversed_mod (n v : Nat) : byteReversed n (v % 2 ^ (8 * n)) = byteReversed n v := by
  induction n generalizing v with
  | zero => rfl
  | succ n ih =>
    have hdiv : v % 2 ^ (8 * (n + 1)) / 2 ^ 8 = v / 2 ^ 8 % 2 ^ (8 * n) := by
      rw [Nat.mul_succ, Nat.pow_add, Nat.mul_comm, Nat.mod_mul_right_div_self]
    rw [byteReversed, byteReversed, hdiv, ih, Nat.mod_mod_of_dvd _ (Nat.pow_dvd_pow 2 (by omega))]

/-- Reversing twice gives the bytes back (R198). -/
theorem byteReversed_byteReversed (n v : Nat) : byteReversed n (byteReversed n v) = v % 2 ^ (8 * n) := by
  induction n generalizing v with
  | zero => simp [byteReversed, Nat.mod_one]
  | succ n ih =>
    rw [byteReversed_add n 1 v, byteReversed_one, byteReversed]
    have hlow : (byteReversed n v * 2 ^ (8 * 1) + v / 2 ^ (8 * n) % 2 ^ 8) % 2 ^ 8 = v / 2 ^ (8 * n) % 2 ^ 8 := by omega
    have hhigh : (byteReversed n v * 2 ^ (8 * 1) + v / 2 ^ (8 * n) % 2 ^ 8) / 2 ^ 8 = byteReversed n v := by omega
    rw [hlow, hhigh, ih, Nat.mul_succ, Nat.pow_add, Nat.mod_mul]
    ring

/-- Two halves of `n` bytes, each reversed and put in the other's place, are the `2n` bytes reversed. -/
theorem byteReversed_halves (n v : Nat) :
    byteReversed n (v % 2 ^ (8 * n)) * 2 ^ (8 * n) + byteReversed n (v / 2 ^ (8 * n) % 2 ^ (8 * n)) =
      byteReversed (n + n) v := by
  rw [byteReversed_mod, byteReversed_mod, byteReversed_add]

theorem bswap16_toNat (v : BitVec 16) : (bswap16 v).toNat = byteReversed 2 v.toNat := by
  rw [← byteReversed_halves 1]
  simp only [bswap16, toNat_append_eq_add, BitVec.extractLsb'_toNat, Nat.shiftRight_eq_div_pow, byteReversed_one]
  simp

theorem bswap32_toNat (v : BitVec 32) : (bswap32 v).toNat = byteReversed 4 v.toNat := by
  rw [← byteReversed_halves 2]
  simp only [bswap32, toNat_append_eq_add, bswap16_toNat, BitVec.extractLsb'_toNat, Nat.shiftRight_eq_div_pow]
  simp

theorem bswap64_toNat (v : BitVec 64) : (bswap64 v).toNat = byteReversed 8 v.toNat := by
  rw [← byteReversed_halves 4]
  simp only [bswap64, toNat_append_eq_add, bswap32_toNat, BitVec.extractLsb'_toNat, Nat.shiftRight_eq_div_pow]
  simp

section
variable (v : Word)

theorem leConvert16_toNat : (leConvert16 v).toNat = v.toNat % 2 ^ 16 := by
  rw [leConvert16, BitVec.toNat_setWidth, BitVec.extractLsb'_toNat, Nat.shiftRight_zero]
  omega

theorem leConvert32_toNat : (leConvert32 v).toNat = v.toNat % 2 ^ 32 := by
  rw [leConvert32, BitVec.toNat_setWidth, BitVec.extractLsb'_toNat, Nat.shiftRight_zero]
  omega

theorem beConvert16_toNat : (beConvert16 v).toNat = byteReversed 2 v.toNat := by
  have := byteReversed_lt 2 v.toNat
  rw [beConvert16, BitVec.toNat_setWidth, bswap16_toNat, BitVec.extractLsb'_toNat, Nat.shiftRight_zero,
    byteReversed_mod 2]
  omega

theorem beConvert32_toNat : (beConvert32 v).toNat = byteReversed 4 v.toNat := by
  have := byteReversed_lt 4 v.toNat
  rw [beConvert32, BitVec.toNat_setWidth, bswap32_toNat, BitVec.extractLsb'_toNat, Nat.shiftRight_zero,
    byteReversed_mod 4]
  omega

end

/-- Settles O37: each conversion as a function on numbers. -/
theorem byteOrderResults : Obligations.ByteOrderResults :=
  ⟨dstRule_of_unary64 (fun _ _ => rfl) leConvert16_toNat, dstRule_of_unary64 (fun _ _ => rfl) leConvert32_toNat,
   dstRule_of_unary64 (fun _ _ => rfl) fun _ => rfl, dstRule_of_unary64 (fun _ _ => rfl) beConvert16_toNat,
   dstRule_of_unary64 (fun _ _ => rfl) beConvert32_toNat, dstRule_of_unary64 (fun _ _ => rfl) bswap64_toNat⟩

/-- Two rules for the same register, one after the other. -/
theorem twoStepRule_of_dstRules {i j : RegField → Instr} {f g h : Nat → Nat} (hi : DstRule i f) (hj : DstRule j g)
    (hcomp : ∀ a < 2 ^ 64, g (f a) = h a) : TwoStepRule i j h := by
  intro d s hd
  obtain ⟨t, hexec, ht⟩ := hi d s hd
  obtain ⟨u, hexec', hu⟩ := hj d t hd
  refine ⟨t, u, hexec, hexec', ?_, by rw [hu.pc, ht.pc]; ring⟩
  rw [hu.value, ht.value, hcomp _ (s.read64 d).isLt]

/-- Settles O38: the rules of `ByteOrderResults`, one after the other, and the laws of byte reversal. -/
theorem byteOrderRoundTrips : Obligations.ByteOrderRoundTrips := by
  obtain ⟨le16, le32, le64, be16, be32, be64⟩ := byteOrderResults
  exact
    ⟨twoStepRule_of_dstRules be16 be16 fun a _ => byteReversed_byteReversed 2 a,
     twoStepRule_of_dstRules be32 be32 fun a _ => byteReversed_byteReversed 4 a,
     twoStepRule_of_dstRules be64 be64 fun a ha => (byteReversed_byteReversed 8 a).trans (Nat.mod_eq_of_lt ha),
     twoStepRule_of_dstRules be16 le16 fun a _ => Nat.mod_eq_of_lt (byteReversed_lt 2 a),
     twoStepRule_of_dstRules be32 le32 fun a _ => Nat.mod_eq_of_lt (byteReversed_lt 4 a),
     twoStepRule_of_dstRules be64 le64 fun _ _ => rfl,
     twoStepRule_of_dstRules le16 be16 fun a _ => byteReversed_mod 2 a,
     twoStepRule_of_dstRules le32 be32 fun a _ => byteReversed_mod 4 a,
     twoStepRule_of_dstRules le64 be64 fun _ _ => rfl⟩

end Sys2Proof.Machine
end

section
/-! PROOFS. Family other: jumps, `call`, `exit` and the packet loads. -/

namespace Sys2Proof.Machine

open Sys2Proof.Claims

/-! ## Jumps -/

theorem jumped_goto (s : State) (target : Int) : Jumped s target (s.goto target) where
  pc := rfl
  regs _ := rfl
  mem _ := rfl
  status := ⟨rfl, rfl, rfl, rfl, rfl⟩

theorem jumpTarget_eq (s : State) (offset : Offset) : s.jumpTarget offset = s.pc + 1 + signedOf 16 offset.toNat := by
  rw [State.jumpTarget, signedOf_toNat]

/-- A taken branch goes to its target, and one that is not taken to the next slot (R200). -/
theorem branch_jumped (s : State) (taken : Bool) (offset : Offset) :
    (taken = true → Jumped s (s.pc + 1 + signedOf 16 offset.toNat) (s.branch taken offset)) ∧
      (¬ taken = true → Jumped s (s.pc + 1) (s.branch taken offset)) := by
  rw [← jumpTarget_eq]
  cases taken
  · exact ⟨nofun, fun _ => jumped_goto s _⟩
  · exact ⟨fun _ => jumped_goto s _, fun h => absurd rfl h⟩

/-- The condition is `p` on the unsigned values. -/
def Decides (cond : Word → Word → Bool) (p : Nat → Nat → Prop) : Prop :=
  ∀ a b, cond a b = true ↔ p a.toNat b.toNat

theorem jumpImmRule_of_decides {i : RegField → Imm → Offset → Instr} {cond : Word → Word → Bool}
    {p : Nat → Nat → Prop} (hcond : Decides cond p)
    (h : ∀ dst imm offset s, exec (i dst imm offset) s = settle s (jumpImm cond dst imm offset s)) :
    JumpImmRule i p := by
  intro d imm offset s
  rw [← ext64_toNat, ← hcond]
  refine ⟨_, ?_, branch_jumped s _ offset⟩
  rw [h, jumpImm, usedReg_field]
  rfl

theorem jumpSrcRule_of_decides {i : RegField → RegField → Offset → Instr} {cond : Word → Word → Bool}
    {p : Nat → Nat → Prop} (hcond : Decides cond p)
    (h : ∀ dst src offset s, exec (i dst src offset) s = settle s (jumpSrc cond dst src offset s)) :
    JumpSrcRule i p := by
  intro d r offset s
  rw [← hcond]
  refine ⟨_, ?_, branch_jumped s _ offset⟩
  rw [h, jumpSrc, readsDstSrc_field]
  rfl

theorem decides_condEq : Decides condEq fun a b => a = b := fun a b => by
  simp only [condEq, beq_iff_eq, BitVec.toNat_inj]

theorem decides_condNe : Decides condNe fun a b => a ≠ b := fun a b => by
  simp only [condNe, bne_iff_ne, ne_eq, BitVec.toNat_inj]

theorem decides_condGt : Decides condGt fun a b => a > b := fun a b => by
  simp only [condGt, BitVec.ult, decide_eq_true_eq, gt_iff_lt]

theorem decides_condGe : Decides condGe fun a b => a ≥ b := fun a b => by
  simp only [condGe, BitVec.ule, decide_eq_true_eq, ge_iff_le]

theorem decides_condSet : Decides condSet fun a b => a &&& b ≠ 0 := fun a b => by
  simp only [condSet, bne_iff_ne, ne_eq, ← BitVec.toNat_inj, BitVec.toNat_and, BitVec.ofNat_eq_ofNat,
    BitVec.toNat_ofNat, Nat.zero_mod]

theorem decides_condSgt : Decides condSgt fun a b => signedOf 64 a > signedOf 64 b := fun a b => by
  simp only [condSgt, BitVec.slt, decide_eq_true_eq, signedOf_toNat, gt_iff_lt]

theorem decides_condSge : Decides condSge fun a b => signedOf 64 a ≥ signedOf 64 b := fun a b => by
  simp only [condSge, BitVec.sle, decide_eq_true_eq, signedOf_toNat, ge_iff_le]

/-- Settles O40: the seven conditions in the IMM form. -/
theorem conditionalJumpsImm : Obligations.ConditionalJumpsImm := by
  refine ⟨jumpImmRule_of_decides decides_condEq ?_, jumpImmRule_of_decides decides_condGt ?_,
    jumpImmRule_of_decides decides_condGe ?_, jumpImmRule_of_decides decides_condSet ?_,
    jumpImmRule_of_decides decides_condNe ?_, jumpImmRule_of_decides decides_condSgt ?_,
    jumpImmRule_of_decides decides_condSge ?_⟩
  all_goals exact fun _ _ _ _ => rfl

/-- Settles O41: the seven conditions in the SRC form. -/
theorem conditionalJumpsSrc : Obligations.ConditionalJumpsSrc := by
  refine ⟨jumpSrcRule_of_decides decides_condEq ?_, jumpSrcRule_of_decides decides_condGt ?_,
    jumpSrcRule_of_decides decides_condGe ?_, jumpSrcRule_of_decides decides_condSet ?_,
    jumpSrcRule_of_decides decides_condNe ?_, jumpSrcRule_of_decides decides_condSgt ?_,
    jumpSrcRule_of_decides decides_condSge ?_⟩
  all_goals exact fun _ _ _ _ => rfl

/-- Settles O39: `ja` is a branch that is always taken. -/
theorem jaJumpsRelative : Obligations.JaJumpsRelative :=
  fun offset s => ⟨_, rfl, (branch_jumped s true offset).1 rfl⟩

/-- Settles O57: in the range of the field, the displacement survives its encoding. -/
theorem labelDistanceMatchesJump : Obligations.LabelDistanceMatchesJump := by
  intro position index s hpc hlo hhi
  refine ⟨_, rfl, ?_⟩
  have hoffset : (BitVec.ofInt 16 (displacement position index)).toInt = displacement position index := by
    rw [BitVec.toInt_ofInt]
    exact Int.bmod_eq_of_le (by omega) (by omega)
  show s.jumpTarget _ = _
  rw [State.jumpTarget, hoffset, displacement, hpc]
  omega

/-- Settles O42: `call` only goes to its target. -/
theorem callJumpsAbsolute : Obligations.CallJumpsAbsolute := fun _ s => ⟨_, rfl, jumped_goto s _⟩

/-- Settles O43: `exit` sets `STATE` and nothing else. -/
theorem exitHalts : Obligations.ExitHalts :=
  fun _ => ⟨_, rfl, rfl, rfl, rfl, fun _ => rfl, fun _ => rfl, rfl, rfl, rfl, rfl⟩

/-! ## Packet loads -/

theorem packetRule_of_exec {i : Instr} (h : ∀ s, exec i s = settle s (packetLoad s)) : PacketRule i :=
  fun s => ⟨_, h s, rfl, rfl, rfl, fun _ => rfl, fun _ => rfl, rfl, rfl, rfl⟩

/-- Settles O51: the eight packet loads share one rule. -/
theorem packetLoadsReportAndContinue : Obligations.PacketLoadsReportAndContinue := by
  refine ⟨?_, ?_, ?_, ?_, ?_, ?_, ?_, ?_⟩ <;>
  exact packetRule_of_exec fun _ => rfl

end Sys2Proof.Machine
end

section
/-! PROOFS. Family other: scratch memory. -/

namespace Sys2Proof.Machine

open Sys2Proof.Claims

/-- Settles O45: from the ranges of the two operands. -/
theorem effectiveAddressIsExact : Obligations.EffectiveAddressIsExact := by
  intro b offset
  have hlo := BitVec.le_toInt offset
  have hhi := BitVec.toInt_lt (x := offset)
  have hb := b.isLt
  rw [signedOf_toNat, effectiveAddress]
  omega

/-! ## Bytes and little-endian values (R54 to R56) -/

/-- The model's read is the sum of R55. -/
theorem readLE_eq_littleEndian (m : Memory) (a n : Nat) : m.readLE a n = littleEndian m a n := by
  induction n generalizing a with
  | zero => rfl
  | succ n ih =>
    rw [Memory.readLE, ih, littleEndian, littleEndian, List.range_succ_eq_map, List.map_cons, List.sum_cons,
      List.map_map, ← List.sum_map_mul_left]
    congr 2
    · simp
    · refine List.map_congr_left fun k _ => ?_
      rw [Function.comp_apply, Nat.add_assoc, Nat.add_comm 1, Nat.mul_succ, Nat.pow_add]
      ring

/-- Bytes that are those of `v` read as the low bytes of `v`. -/
theorem readLE_eq_mod {m : Memory} {a n v : Nat}
    (h : ∀ k < n, (m.readByte (a + k)).toNat = v / 2 ^ (8 * k) % 2 ^ 8) : m.readLE a n = v % 2 ^ (8 * n) := by
  induction n generalizing a v with
  | zero => simp [Memory.readLE, Nat.mod_one]
  | succ n ih =>
    have hrest : m.readLE (a + 1) n = v / 2 ^ 8 % 2 ^ (8 * n) := by
      refine ih fun k hk => ?_
      rw [Nat.add_assoc, Nat.add_comm 1, h (k + 1) (by omega), Nat.div_div_eq_div_mul, ← Nat.pow_add, Nat.mul_succ,
        Nat.add_comm 8]
    have hfirst : (m.readByte a).toNat = v % 2 ^ 8 := by simpa using h 0 (by omega)
    rw [Memory.readLE, hrest, hfirst, Nat.mul_succ, Nat.add_comm _ 8, Nat.pow_add, Nat.mod_mul]

theorem readLE_lt (m : Memory) (a n : Nat) : m.readLE a n < 2 ^ (8 * n) := by
  induction n generalizing a with
  | zero => simp [Memory.readLE]
  | succ n ih =>
    have hbyte := (m.readByte a).isLt
    have hrest := ih (a + 1)
    rw [Memory.readLE, Nat.mul_succ, Nat.pow_add]
    omega

/-- A multi-byte write inside scratch memory: byte `k` of `v` stands at `a + k`. -/
theorem readByte_writeLE {m : Memory} (hwf : m.wf) {a n k : Nat} (v : Word) (hn : a + n ≤ 128) (hk : k < n) :
    (m.writeLE a v n).readByte (a + k) = v.extractLsb' (8 * k) 8 := by
  induction n generalizing m a v k with
  | zero => omega
  | succ n ih =>
    rw [Memory.writeLE]
    cases k with
    | zero =>
      have hlisted : a ∈ m.map Prod.fst := (Memory.mem_addresses_iff hwf a).2 (by
        simp only [Config.memBase, Config.memSize, Config.memSlots]
        omega)
      rw [Memory.readByte_writeLE_other _ _ _ _ _ (.inl (by omega))]
      exact Memory.readByte_writeByte_same _ hlisted
    | succ k =>
      rw [Nat.add_comm k, ← Nat.add_assoc, ih (Memory.wf_writeByte hwf _ _) _ (by omega) (by omega)]
      apply BitVec.eq_of_toNat_eq
      simp [Nat.mul_add, ← Nat.shiftRight_add]

theorem readByte_writeLE_toNat {m : Memory} (hwf : m.wf) {a n k : Nat} (v : Word) (hn : a + n ≤ 128) (hk : k < n) :
    ((m.writeLE a v n).readByte (a + k)).toNat = v.toNat / 2 ^ (8 * k) % 2 ^ 8 := by
  rw [readByte_writeLE hwf v hn hk, BitVec.extractLsb'_toNat, Nat.shiftRight_eq_div_pow]

/-! ## Loads -/

theorem memRead_of_admitted {w : Width} {ea : Int} {s : State} (h : Admitted ea w.bytes) :
    memRead w ea s = .ok (BitVec.ofNat 64 (s.mem.readLE ea.toNat w.bytes)) :=
  (memRead_eq_ok_iff _ _ _ _).2 ⟨h, rfl⟩

theorem width_bytes_le (w : Width) : w.bytes ≤ 8 := by
  cases w <;> decide

theorem loadRule_of_exec {i : RegField → RegField → Offset → Instr} (w : Width)
    (h : ∀ dst src offset s, exec (i dst src offset) s = settle s (loadReg w dst src offset s)) :
    LoadRule i w.bytes := by
  intro d base offset s hd hin
  have hvalue := readLE_lt s.mem (addressOf s base offset).toNat w.bytes
  have hwidth : 2 ^ (8 * w.bytes) ≤ 2 ^ 64 := Nat.pow_le_pow_right (by decide) (by have := width_bytes_le w; omega)
  refine (writes_of_loadReg (h _ _ offset)).wrote (writesDstReadsSrc_field hd base) (memRead_of_admitted hin) ?_
  rw [← readLE_eq_littleEndian]
  exact Nat.mod_eq_of_lt (hvalue.trans_le hwidth)

/-- Settles O46: the load form at its four widths. -/
theorem loadResults : Obligations.LoadResults := by
  refine ⟨loadRule_of_exec .byte ?_, loadRule_of_exec .half ?_, loadRule_of_exec .word ?_, loadRule_of_exec .dword ?_⟩
  all_goals exact fun _ _ _ _ => rfl

/-! ## Stores -/

theorem memWrite_of_admitted {w : Width} {ea : Int} {s : State} (h : Admitted ea w.bytes) (v : Word) :
    memWrite w ea v s = .ok { s with mem := s.mem.writeLE ea.toNat v w.bytes } :=
  (memWrite_eq_ok_iff _ _ _ _ _).2 ⟨h, rfl⟩

theorem stored_writeLE {s : State} (hwf : s.mem.wf) {a n : Nat} (hn : a + n ≤ 128) (v : Word) :
    Stored s a n v.toNat (State.advance { s with mem := s.mem.writeLE a v n }) where
  bytes _ hk := readByte_writeLE_toNat hwf v hn hk
  otherBytes b hb := Memory.readByte_writeLE_other s.mem a v n b hb
  regs _ := rfl
  pc := rfl
  status := ⟨rfl, rfl, rfl, rfl, rfl⟩

theorem admitted_toNat {ea : Int} {n : Nat} (h : Admitted ea n) : ea.toNat + n ≤ 128 := by
  obtain ⟨hlo, hhi⟩ := h
  omega

section
variable {w : Width} {base : RegIdx} {offset : Offset} {s : State} (hin : Admitted (addressOf s base offset) w.bytes)
include hin

theorem storeImm_of_admitted (v : Word) : storeImm w v (field base) offset s =
    .ok (State.advance { s with mem := s.mem.writeLE (addressOf s base offset).toNat v w.bytes }) :=
  (bind_eq_ok_iff _ _ _).2 ⟨base, usedReg_field base, (bind_eq_ok_iff _ _ _).2 ⟨_, memWrite_of_admitted hin v, rfl⟩⟩

theorem storeReg_of_admitted (r : RegIdx) : storeReg w (field base) (field r) offset s =
    .ok (State.advance { s with mem := s.mem.writeLE (addressOf s base offset).toNat (s.read64 r) w.bytes }) :=
  (bind_eq_ok_iff _ _ _).2 ⟨(base, r), readsDstSrc_field base r,
    (bind_eq_ok_iff _ _ _).2 ⟨_, memWrite_of_admitted hin _, rfl⟩⟩

end

theorem storeImmRule_of_exec {i : RegField → Offset → Imm → Instr} (w : Width) {value : Imm → Word} {f : Imm → Nat}
    (hvalue : ∀ imm, (value imm).toNat = f imm)
    (h : ∀ dst offset imm s, exec (i dst offset imm) s = settle s (storeImm w (value imm) dst offset s)) :
    StoreImmRule i w.bytes f := by
  intro base offset imm s hwf hin
  refine ⟨_, ?_, hvalue imm ▸ stored_writeLE hwf (admitted_toNat hin) (value imm)⟩
  rw [h, storeImm_of_admitted hin, settle_ok]

theorem storeSrcRule_of_exec {i : RegField → RegField → Offset → Instr} (w : Width)
    (h : ∀ dst src offset s, exec (i dst src offset) s = settle s (storeReg w dst src offset s)) :
    StoreSrcRule i w.bytes := by
  intro base r offset s hwf hin
  refine ⟨_, ?_, stored_writeLE hwf (admitted_toNat hin) (s.read64 r)⟩
  rw [h, storeReg_of_admitted hin, settle_ok]

/-- Settles O47: the store form at its four widths, each with its reading of `imm`. -/
theorem storeImmResults : Obligations.StoreImmResults := by
  refine ⟨storeImmRule_of_exec .byte zext64_toNat ?_, storeImmRule_of_exec .half zext64_toNat ?_,
    storeImmRule_of_exec .word zext64_toNat ?_, storeImmRule_of_exec .dword ext64_toNat ?_⟩
  all_goals exact fun _ _ _ _ => rfl

/-- Settles O48: the store form at its four widths. -/
theorem storeSrcResults : Obligations.StoreSrcResults := by
  refine ⟨storeSrcRule_of_exec .byte ?_, storeSrcRule_of_exec .half ?_, storeSrcRule_of_exec .word ?_,
    storeSrcRule_of_exec .dword ?_⟩
  all_goals exact fun _ _ _ _ => rfl

/-- Inside an eight-byte write of `v` at `a`, `n` bytes from `a + j` up read as the bytes of `v` from `j` up (R60). -/
theorem memRead_of_written {w : Width} {a : Int} {j : Nat} {s t : State} {v : Word} (hwf : s.mem.wf)
    (ha : Admitted a 8) (hj : j + w.bytes ≤ 8) (ht : t.mem = s.mem.writeLE a.toNat v 8) :
    memRead w (a + j) t = .ok (BitVec.ofNat 64 (v.toNat / 2 ^ (8 * j) % 2 ^ (8 * w.bytes))) := by
  obtain ⟨hlo, hhi⟩ := ha
  have haddress : (a + j).toNat = a.toNat + j := by omega
  rw [memRead_of_admitted ⟨by omega, by omega⟩, haddress, readLE_eq_mod (v := v.toNat / 2 ^ (8 * j)) fun k hk => ?_]
  rw [ht, Nat.add_assoc, readByte_writeLE_toNat hwf v (by omega) (by omega), Nat.div_div_eq_div_mul, ← Nat.pow_add,
    Nat.mul_add]

/-- Settles O50: the four reads at their width and distance from `a`. -/
theorem narrowReadsSeeWideWrite : Obligations.NarrowReadsSeeWideWrite := by
  intro s a v hwf ha
  have hread := fun (w : Width) (j : Nat) (hj : j + w.bytes ≤ 8) =>
    memRead_of_written (t := { s with mem := s.mem.writeLE a.toNat v 8 }) (v := v) hwf ha hj rfl
  have hhigh : v.toNat / 2 ^ 32 % 2 ^ 32 = v.toNat / 2 ^ 32 := by omega
  refine ⟨_, memWrite_of_admitted (w := .dword) ha v, ?_, fun k hk => hread .byte k hk, ?_, ?_⟩
  · have h := hread .dword 0 le_rfl
    rw [Nat.mod_eq_of_lt (by simpa [Width.bytes] using v.isLt)] at h
    simpa [Width.bytes] using h
  · simpa [Width.bytes] using hread .word 0 (by decide)
  · rw [← hhigh]
    exact hread .word 4 (by decide)

end Sys2Proof.Machine
end

section
/-! PROOFS. Family other: register views, and the host's transactions. -/

namespace Sys2Proof.Machine

open Sys2Proof.Claims

/-! ## Register views (R22, R23) -/

/-- Settles O52: the laws of a register write, on each view. -/
theorem registerViews : Obligations.RegisterViews := by
  intro s i v h
  refine ⟨⟨s.read64_write64_same i v, read32_toNat s i, ?_⟩, fun j hj => ⟨?_, ?_⟩⟩
  · rw [State.write32, State.read64_write64_same, ← zext64, zext64_toNat]
  · exact s.read64_write64_other v hj
  · exact s.read64_write64_other _ hj

/-- Settles O53: the high half is a quotient, and the write appends it to the low half. -/
theorem highHalfViews : Obligations.HighHalfViews := by
  intro s i h
  refine ⟨⟨?_, ?_⟩, fun j hj => s.read64_write64_other _ hj⟩
  · have hword := (s.read64 i).isLt
    rw [State.readHi32, BitVec.extractLsb'_toNat, Nat.shiftRight_eq_div_pow]
    omega
  · rw [State.writeHi32, State.read64_write64_same, toNat_append_eq_add, read32_toNat]

/-! ## Reset (R38, R290) -/

theorem read64_resetWith (memInit : Nat → Byte) (i : RegIdx) : (State.resetWith memInit).read64 i = 0 := by
  simp [State.resetWith, State.read64]

theorem inv_resetWith (memInit : Nat → Byte) : (State.resetWith memInit).Inv where
  mem_wf := Memory.wf_ofBytes memInit
  frame_zero := read64_resetWith memInit _
  pc_range := by simp [State.resetWith]
  program_length := Nat.zero_le _
  fault_halted h := absurd rfl h
  unsup_counted := by simp [State.resetWith]

/-- Settles O18: the free `MEM_INIT` is one of all. -/
theorem resetMeetsInvariant : Obligations.ResetMeetsInvariant := ⟨inv_resetWith _, inv_resetWith⟩

theorem inv_hostReset {s : State} (hs : s.Inv) (memInit : Nat → Byte) : (hostReset memInit s).Inv :=
  { inv_resetWith memInit with program_length := hs.program_length }

/-- `run` is ignored, or starts a program of a length that a program can have (R297). -/
theorem hostRun_cases (prog : List Word) (s : State) :
    hostRun prog s = s ∨ (s.control = .ready ∧ prog.length ≤ Config.progLenMax ∧
      hostRun prog s = { s with program := prog, control := .running }) := by
  unfold hostRun
  split
  next h => exact .inr ⟨h.1, h.2, rfl⟩
  next => exact .inl rfl

theorem hostRun_of_ready {prog : List Word} {s : State} (hs : s.control = .ready)
    (hprog : prog.length ≤ Config.progLenMax) : hostRun prog s = { s with program := prog, control := .running } :=
  if_pos ⟨hs, hprog⟩

theorem inv_hostRun {s : State} (hs : s.Inv) (prog : List Word) : (hostRun prog s).Inv := by
  rcases hostRun_cases prog s with h | ⟨hready, hprog, h⟩ <;> rw [h]
  · exact hs
  · have hfault : s.fault = none := by
      by_contra hne
      exact absurd (hready.symm.trans (hs.fault_halted hne)) (by decide)
    exact { hs with program_length := hprog, fault_halted := fun hne => absurd hfault hne }

/-- Settles O19: one lemma for each transaction. -/
theorem hostTransactionsKeepInvariant : Obligations.HostTransactionsKeepInvariant :=
  fun _ hs => ⟨inv_hostReset hs, inv_hostRun hs⟩

theorem readByte_ofBytes (byteAt : Nat → Byte) {a : Nat} (ha : a < 128) :
    (Memory.ofBytes byteAt).readByte a = byteAt a := by
  have hlist : Memory.ofBytes byteAt = (List.range 128).map fun k => (k, byteAt k) := by
    simp [Memory.ofBytes, Config.memBase, Config.memSize, Config.memSlots]
  rw [Memory.readByte, hlist, List.lookup_graph byteAt (List.mem_range.2 ha)]
  rfl

/-- After reset every register is 0, so a load reaches byte `a` from any base by the displacement `a`. -/
theorem addressOf_hostReset (memInit : Nat → Byte) (s : State) (base : RegIdx) {a : Nat} (ha : a < 128) :
    addressOf (hostReset memInit s) base (BitVec.ofNat 16 a) = a := by
  have hbase : (hostReset memInit s).read64 base = 0 := read64_resetWith memInit base
  have hoffset : (BitVec.ofNat 16 a).toInt = a := by
    rw [BitVec.toInt_eq_toNat_cond, BitVec.toNat_ofNat]
    omega
  rw [addressOf, effectiveAddress, hbase, hoffset]
  simp

/-- Settles O54: the fields by definition, the load by the rule of admitted loads. -/
theorem resetValues : Obligations.ResetValues := by
  intro memInit s t
  have hbyte : ∀ a < 128, t.mem.readByte a = memInit a := fun a ha => readByte_ofBytes memInit ha
  refine ⟨read64_resetWith memInit, rfl, rfl, rfl, rfl, rfl, rfl, hbyte, fun d a hd ha => ?_⟩
  have haddress : addressOf t frameRegister (BitVec.ofNat 16 a) = a :=
    addressOf_hostReset memInit s _ ha
  obtain ⟨u, hexec, hu⟩ := loadResults.1 d frameRegister (BitVec.ofNat 16 a) t hd
    (by rw [haddress]; exact ⟨by omega, by omega⟩)
  refine ⟨u, hexec, ?_⟩
  rw [haddress] at hu
  simpa [littleEndian, hbyte a ha] using hu

/-- Settles O55: the two outcomes of `run`, and the first fetch of an empty program. -/
theorem runStartsOnlyFromReady : Obligations.RunStartsOnlyFromReady := by
  refine ⟨fun prog s hs hprog => ?_, fun prog s hs => ?_, fun memInit s => ?_⟩
  · rw [hostRun_of_ready hs hprog]
    exact ⟨rfl, rfl, fun _ => rfl, rfl, rfl, rfl, rfl, rfl⟩
  · exact if_neg fun h => hs h.1
  · exact ⟨_, rfl, faulted_takeFault _ _⟩

end Sys2Proof.Machine
end

section
/-! PROOFS. Family other: the assembler emits instructions on named registers (R98, R119). -/

namespace Sys2Proof

open Sys2Proof.Machine

/-- The register fields of an instruction are those of its word (R90). -/
theorem usedDst_eq (i : Instr) : i.usedDst = bif i.form.usesDst then some i.fields.dst else none := by
  cases i <;> rfl

theorem usedSrc_eq (i : Instr) : i.usedSrc = bif i.form.usesSrc then some i.fields.src else none := by
  cases i <;> rfl

/-- The opcode and the `imm` together are those of an instruction (R92, R93). -/
abbrev OpcodeSelects (opcode : BitVec 8) (imm : Imm) : Prop :=
  opcode ∈ legalOpcodes ∧ (opcode = 0xd4 ∨ opcode = 0xdc → imm = 16 ∨ imm = 32 ∨ imm = 64)

/-- Fields that the assembler may emit, whatever the displacement. -/
structure Fields.Emittable (f : Fields) : Prop where
  selects : OpcodeSelects f.opcode f.imm
  dst : f.dst.toNat ≤ 10
  src : f.src.toNat ≤ 10

theorem Fields.Emittable.withOffset {f : Fields} (h : f.Emittable) (offset : Offset) :
    { f with offset := offset }.Emittable := ⟨h.selects, h.dst, h.src⟩

theorem registersNamed_of_fieldsOver {f : Fields} {i : Instr} (h : i.fieldsOver f = f) (hdst : f.dst.toNat ≤ 10)
    (hsrc : f.src.toNat ≤ 10) : i.registersNamed = true := by
  obtain ⟨-, edst, esrc, -, -⟩ := (eq_fieldsOver_iff f i).1 h
  rw [Instr.registersNamed, usedDst_eq, usedSrc_eq, Bool.and_eq_true]
  constructor
  · cases hd : i.form.usesDst
    · rfl
    · simpa [RegField.named, ← edst hd] using hdst
  · cases hs : i.form.usesSrc
    · rfl
    · simpa [RegField.named, ← esrc hs] using hsrc

theorem Fields.Emittable.decode {f : Fields} (h : f.Emittable) :
    ∃ i, decode (encodeFields f) = .ok i ∧ i.registersNamed = true := by
  rw [Sys2Proof.decode, decodeFields_encodeFields]
  cases hsel : selectInstr f with
  | ok i => exact ⟨i, rfl, registersNamed_of_fieldsOver (fieldsOver_of_selectInstr hsel) h.dst h.src⟩
  | error e =>
    obtain ⟨hlegal, hwidth⟩ := h.selects
    rcases (selectInstr_eq_error_iff f).1 ⟨e, hsel⟩ with hillegal | ⟨hop, h16, h32, h64⟩
    · exact absurd hlegal hillegal
    · rcases hwidth hop with h | h | h
      exacts [absurd h h16, absurd h h32, absurd h h64]

end Sys2Proof

namespace Sys2Proof.Machine

/-! ## Operands -/

theorem decimalDigit_le {c : Char} {n : Nat} (h : decimalDigit c = some n) : n ≤ 9 := by
  unfold decimalDigit at h
  split at h
  next hc =>
    have hhi : c.toNat ≤ '9'.toNat := hc.2
    cases h
    calc c.toNat - '0'.toNat ≤ '9'.toNat - '0'.toNat := Nat.sub_le_sub_right hhi _
      _ = 9 := by decide
  next => cases h

/-- The registers that the assembler accepts are R0 to R10 (R98): character by character, since `split` does not get
through the overlap of the two patterns. -/
theorem parseRegister_le {t : Token} {n : Nat} (h : parseRegister t = some n) : n ≤ 10 := by
  delta parseRegister parseRegister.match_1 at h
  rcases t with _ | ⟨a, t⟩
  · cases h
  by_cases ha : a = 'r'
  case neg => cases (dif_neg ha).symm.trans h
  subst ha
  rcases t with _ | ⟨d, _ | ⟨e, t⟩⟩
  · cases h
  · exact (decimalDigit_le h).trans (by decide)
  by_cases he : e = '0'
  case neg => cases (dif_neg he).symm.trans h
  subst he
  rcases t with _ | ⟨f, t⟩
  · by_cases hd : d = '1'
    · subst hd
      exact (Option.some.inj h).ge
    · cases (dif_neg hd).symm.trans h
  · cases h

theorem registerOperand_le {line : Nat} {t : Token} {r : RegField} (h : registerOperand line t = .ok r) :
    r.toNat ≤ 10 := by
  unfold registerOperand at h
  split at h
  next n hn =>
    cases h
    have := parseRegister_le hn
    rw [BitVec.toNat_ofNat]
    omega
  next => cases h

theorem memoryOperand_le {line : Nat} {opening plus closing : Token} {base : RegField} {off : Offset}
    (h : memoryOperand line opening plus closing = .ok (base, off)) : base.toNat ≤ 10 := by
  obtain ⟨reg, _, _, -, -, -, hreg, -, -⟩ := memoryOperand_ok h
  exact registerOperand_le hreg

/-- A register-or-immediate operand selects one of its two opcodes, and a register that is named. -/
theorem secondOperand_ok {line : Nat} {immOp srcOp op : BitVec 8} {t : Token} {src : RegField} {imm : Imm}
    (h : secondOperand line immOp srcOp t = .ok (op, src, imm)) : (op = immOp ∨ op = srcOp) ∧ src.toNat ≤ 10 := by
  unfold secondOperand at h
  split at h
  · cases himm : immOperand line _ <;> rw [himm] at h <;> cases h
    exact ⟨.inl rfl, by decide⟩
  · cases hreg : registerOperand line t <;> rw [hreg] at h <;> cases h
    exact ⟨.inr rfl, registerOperand_le hreg⟩

/-! ## Shapes -/

/-- An opcode that is an instruction's whatever `imm` holds. -/
abbrev PlainOpcode (opcode : BitVec 8) : Prop := opcode ∈ legalOpcodes ∧ opcode ≠ 0xd4 ∧ opcode ≠ 0xdc

theorem PlainOpcode.selects {opcode : BitVec 8} (h : PlainOpcode opcode) (imm : Imm) : OpcodeSelects opcode imm :=
  ⟨h.1, fun hop => hop.elim (absurd · h.2.1) (absurd · h.2.2)⟩

/-- The opcodes that a shape may emit are those of instructions. -/
def Shape.sound : Shape → Bool
  | .alu immOp srcOp | .branch immOp srcOp => decide (PlainOpcode immOp ∧ PlainOpcode srcOp)
  | .endian op width => decide (OpcodeSelects op width)
  | .unary op | .ja op | .call op | .exit op | .lddw op | .load op | .storeImm op | .storeReg op =>
    decide (PlainOpcode op)

theorem mnemonicTable_sound : mnemonicTable.all (·.2.sound) = true := by
  rfl

theorem mnemonicShape_sound {t : Token} {shape : Shape} (h : mnemonicShape t = some shape) : shape.sound = true := by
  obtain ⟨entry, hfind, rfl⟩ := Option.map_eq_some_iff.1 h
  exact List.all_eq_true.1 mnemonicTable_sound entry (List.mem_of_find?_eq_some hfind)

/-! ## Lines -/

def Parsed.fields : Parsed → Fields
  | .complete f => f
  | .toLabel f _ => f

theorem pure_eq_ok_iff {ε α : Type} (a b : α) : (pure a : Except ε α) = .ok b ↔ a = b := by
  simp [pure, Except.pure]

/-- What a line's operands parse to: case by case, the shape's own opcode, and registers that are named. -/
theorem parseOperands_emittable {line : Nat} {mnemonic : Token} {shape : Shape} {operands : List Token} {p : Parsed}
    (hshape : shape.sound = true) (h : parseOperands line mnemonic shape operands = .ok p) : p.fields.Emittable := by
  have hzero : (0 : RegField).toNat ≤ 10 := by decide
  unfold parseOperands at h
  cases shape with
  | alu | branch =>
    dsimp only at h
    split at h <;> simp only [bind_eq_ok_iff, pure_eq_ok_iff, reduceCtorEq] at h
    obtain ⟨dst, hdst, ⟨op, src, imm⟩, hsecond, rfl⟩ := h
    have hop := of_decide_eq_true hshape
    obtain ⟨rfl | rfl, hsrc⟩ := secondOperand_ok hsecond
    · exact ⟨hop.1.selects imm, registerOperand_le hdst, hsrc⟩
    · exact ⟨hop.2.selects imm, registerOperand_le hdst, hsrc⟩
  | unary =>
    dsimp only at h
    split at h <;> simp only [bind_eq_ok_iff, pure_eq_ok_iff, reduceCtorEq] at h
    obtain ⟨dst, hdst, rfl⟩ := h
    exact ⟨(of_decide_eq_true hshape).selects 0, registerOperand_le hdst, hzero⟩
  | endian =>
    dsimp only at h
    split at h <;> simp only [bind_eq_ok_iff, pure_eq_ok_iff, reduceCtorEq] at h
    obtain ⟨dst, hdst, rfl⟩ := h
    exact ⟨of_decide_eq_true hshape, registerOperand_le hdst, hzero⟩
  | ja | exit =>
    dsimp only at h
    split at h <;> cases h
    exact ⟨(of_decide_eq_true hshape).selects 0, hzero, hzero⟩
  | call =>
    dsimp only at h
    split at h <;> simp only [bind_eq_ok_iff, pure_eq_ok_iff, reduceCtorEq] at h
    obtain ⟨imm, -, rfl⟩ := h
    exact ⟨(of_decide_eq_true hshape).selects imm, hzero, hzero⟩
  | lddw =>
    dsimp only at h
    split at h <;> simp only [bind_eq_ok_iff, pure_eq_ok_iff, reduceCtorEq] at h
    obtain ⟨dst, hdst, imm, -, rfl⟩ := h
    exact ⟨(of_decide_eq_true hshape).selects imm, registerOperand_le hdst, hzero⟩
  | load =>
    dsimp only at h
    split at h <;> simp only [bind_eq_ok_iff, pure_eq_ok_iff, reduceCtorEq] at h
    obtain ⟨dst, hdst, ⟨src, off⟩, hmem, rfl⟩ := h
    exact ⟨(of_decide_eq_true hshape).selects 0, registerOperand_le hdst, memoryOperand_le hmem⟩
  | storeImm =>
    dsimp only at h
    split at h <;> simp only [bind_eq_ok_iff, pure_eq_ok_iff, reduceCtorEq] at h
    obtain ⟨⟨dst, off⟩, hmem, imm, -, rfl⟩ := h
    exact ⟨(of_decide_eq_true hshape).selects imm, memoryOperand_le hmem, hzero⟩
  | storeReg =>
    dsimp only at h
    split at h <;> simp only [bind_eq_ok_iff, pure_eq_ok_iff, reduceCtorEq] at h
    obtain ⟨⟨dst, off⟩, hmem, src, hsrc, rfl⟩ := h
    exact ⟨(of_decide_eq_true hshape).selects 0, memoryOperand_le hmem, registerOperand_le hsrc⟩

theorem parseInstruction_emittable {line : Nat} {mnemonic : Token} {operands : List Token} {p : Parsed}
    (h : parseInstruction line mnemonic operands = .ok p) : p.fields.Emittable := by
  unfold parseInstruction at h
  split at h
  next => cases h
  next shape hshape => exact parseOperands_emittable (mnemonicShape_sound hshape) h

/-- A line's tokens are an instruction: neither blank, nor a comment, nor a label. -/
def isInstructionLine : List Token → Bool
  | [] => false
  | first :: _ => !isComment first && (labelName? first).isNone

/-! ## The two passes -/

/-- Pass one makes one item for each instruction line, and each item's fields may be emitted. -/
theorem scanLines_ok {lines : List (Nat × List Token)} {index : Nat} {labels labels' : Labels} {items : List Item}
    (h : scanLines lines index labels = .ok (labels', items)) :
    items.length = lines.countP (isInstructionLine ·.2) ∧ ∀ item ∈ items, item.parsed.fields.Emittable := by
  induction lines generalizing index labels labels' items with
  | nil =>
    cases h
    exact ⟨rfl, nofun⟩
  | cons head rest ih =>
    obtain ⟨line, _ | ⟨first, operands⟩⟩ := head
    · simpa [isInstructionLine] using ih h
    rw [scanLines] at h
    by_cases hcomment : isComment first = true
    · rw [if_pos hcomment] at h
      simpa [isInstructionLine, hcomment] using ih h
    rw [if_neg hcomment] at h
    cases hlabel : labelName? first with
    | some name =>
      simp only [hlabel, bind_eq_ok_iff] at h
      obtain ⟨labels₁, -, h⟩ := h
      simpa [isInstructionLine, hlabel] using ih h
    | none =>
      simp only [hlabel, bind_eq_ok_iff, pure_eq_ok_iff, Prod.mk.injEq] at h
      obtain ⟨parsed, hparsed, ⟨labels₁, items₁⟩, hrest, rfl, rfl⟩ := h
      obtain ⟨hlength, hitems⟩ := ih hrest
      refine ⟨by simp [isInstructionLine, hcomment, hlabel, hlength], ?_⟩
      exact List.forall_mem_cons.2 ⟨parseInstruction_emittable hparsed, hitems⟩

/-- Pass two writes an item's fields, with a displacement in place of its label. -/
theorem emitItem_ok {labels : Labels} {item : Item} {w : Word} (h : emitItem labels item = .ok w) :
    ∃ offset, w = encodeFields { item.parsed.fields with offset := offset } := by
  unfold emitItem at h
  split at h
  next f hf =>
    cases h
    exact ⟨f.offset, by rw [hf]; rfl⟩
  next f label hf =>
    split at h
    · cases h
    · dsimp only at h
      split at h <;> cases h
      exact ⟨_, by rw [hf]; rfl⟩

/-- A list that is mapped gives one answer for each of its members. -/
theorem mapM_eq_ok {ε α β : Type} {f : α → Except ε β} {xs : List α} {ys : List β} (h : xs.mapM f = .ok ys) :
    ys.length = xs.length ∧ ∀ y ∈ ys, ∃ x ∈ xs, f x = .ok y := by
  induction xs generalizing ys with
  | nil =>
    cases h
    exact ⟨rfl, nofun⟩
  | cons x xs ih =>
    simp only [List.mapM_cons, bind_eq_ok_iff, pure_eq_ok_iff] at h
    obtain ⟨y, hy, ys, hys, rfl⟩ := h
    obtain ⟨hlength, hmem⟩ := ih hys
    refine ⟨congrArg (· + 1) hlength, List.forall_mem_cons.2 ⟨⟨x, List.mem_cons_self, hy⟩, fun z hz => ?_⟩⟩
    obtain ⟨x', hx', hz'⟩ := hmem z hz
    exact ⟨x', List.mem_cons_of_mem x hx', hz'⟩

/-- Settles O56: pass one makes emittable fields, one per instruction line, and pass two keeps them so. -/
theorem assembledProgramsDecode : Obligations.AssembledProgramsDecode := by
  intro src prog h
  obtain ⟨⟨labels, items⟩, hscan, hemit⟩ := (bind_eq_ok_iff _ _ _).1 h
  obtain ⟨hitemCount, hitems⟩ := scanLines_ok hscan
  obtain ⟨hwordCount, hwords⟩ := mapM_eq_ok hemit
  constructor
  · intro w hw
    obtain ⟨item, hitem, hemitted⟩ := hwords w hw
    obtain ⟨offset, rfl⟩ := emitItem_ok hemitted
    exact ((hitems item hitem).withOffset offset).decode
  · rw [hwordCount, hitemCount]
    refine List.countP_congr fun line _ => ?_
    rcases line.2 with _ | ⟨first, rest⟩ <;> rfl

end Sys2Proof.Machine
end
